-- ==== Sys2Proof/Word.lean ====
section
/-! DEFINITION. Bytes, words and the two word widths (00_scope.md R10, R14; 10_state.md R21). -/

namespace Sys2Proof

/-- A byte, an 8-bit unsigned value (R14). -/
abbrev Byte := BitVec 8

/-- A word register: 64 bits wide at both widths, upper half zero in a 32-bit variant (R21, D25). -/
abbrev Word := BitVec 64

/-- The two word widths (R10). -/
inductive Width where
  | w32
  | w64
  deriving DecidableEq, Repr

/-- `W`, the word width in bits (R10). -/
def Width.bits : Width → Nat
  | .w32 => 32
  | .w64 => 64

/-- `WB = W / 8`, the bytes of a word (R10). -/
def Width.bytes : Width → Nat
  | .w32 => 4
  | .w64 => 8

end Sys2Proof
end

