-- ==== Sys2Proof/Syntax.lean ====
section
/-! DEFINITION. The operations of the engine: one constructor of `Instr` for every row of spec/opcode_table.json
(30_encoding.md R90 to R106), and the packet that carries one operation's encoding. -/

namespace Sys2Proof

/-- The six variants, in the order of their NAME codes 0 to 5 (R3, R93). -/
inductive Variant where
  | v224
  | v256
  | v384
  | v512
  | v512t224
  | v512t256
  deriving DecidableEq, Repr

/-- The five error kinds, in the order of their codes 1 to 5 (R290, R296). -/
inductive ErrorKind where
  | unknownVariant
  | sourceOpenError
  | sourceReadError
  | keySourceError
  | badCommand
  deriving DecidableEq, Repr

/-- A register access that does nothing: a read of an offset, or a write of a value to an offset (R265). -/
inductive NullAccess where
  | read (off : BitVec 9)
  | write (off : BitVec 9) (v : BitVec 32)
  deriving DecidableEq, Repr

/-- The operations of the engine. -/
inductive Instr where
  -- format CMD (R91, R92): the fields of the command word but for the HMAC bit
  | digest (text : Bool) (name : BitVec 3) (w64 : Bool)
  | hmac (text : Bool) (name : BitVec 3) (w64 : Bool)
  -- format BUS (R104); `v` is the 32-bit value written
  | wrCmd (v : BitVec 32)
  | rdStatus
  | rdErr
  | rdWant
  | rdMsglenLo
  | wrMsglenLo (v : BitVec 32)
  | rdMsglenHi
  | wrMsglenHi (v : BitVec 32)
  | rdKeylenLo
  | wrKeylenLo (v : BitVec 32)
  | rdKeylenHi
  | wrKeylenHi (v : BitVec 32)
  | wrDin (v : BitVec 32)
  | wrDinctl (v : BitVec 32)
  | rdRlen
  | rdDlen
  | rdOlen
  | rdObuf (i : BitVec 6)
  | busNull (a : NullAccess)
  -- format UOP (R105): WordOps
  | rotr32 (x : BitVec 32) (n : BitVec 8)
  | rotr64 (x : BitVec 64) (n : BitVec 8)
  | shr32 (x : BitVec 32) (n : BitVec 8)
  | shr64 (x : BitVec 64) (n : BitVec 8)
  | add32 (x y : BitVec 32)
  | add64 (x y : BitVec 64)
  | bsig0x32 (x : BitVec 32)
  | bsig0x64 (x : BitVec 64)
  | bsig1x32 (x : BitVec 32)
  | bsig1x64 (x : BitVec 64)
  | ssig0x32 (x : BitVec 32)
  | ssig0x64 (x : BitVec 64)
  | ssig1x32 (x : BitVec 32)
  | ssig1x64 (x : BitVec 64)
  | ch32 (x y z : BitVec 32)
  | ch64 (x y z : BitVec 64)
  | maj32 (x y z : BitVec 32)
  | maj64 (x y z : BitVec 64)
  | bswap32 (x : BitVec 32)
  | bswap64 (x : BitVec 64)
  -- VariantTable
  | vlookup (name : BitVec 3) (w64 : Bool)
  | kconst (t : BitVec 7)
  -- BlockAssembler
  | baNext
  | baInject
  | baFull
  | baFinal
  | baPadonly
  | baLenonly
  | baNorm
  | baRefill
  -- CompressionEngine
  | ceLoadw
  | ceSched
  | ceInitv
  | ceRound
  | ceFold
  | ceBlock
  -- DigestFormatter
  | dfRaw
  | dfText
  | dfRoute
  -- HmacComposer
  | hmDerivekey
  | hmKeycopy
  | hmKeyhash
  | hmBuildpads
  | hmInner
  | hmOuter
  | hmDone
  -- sequencer
  | drInit
  | drLoop
  | drEnd
  -- errors and reset
  | errEnter (kind : ErrorKind)
  | reset
  deriving DecidableEq, Repr

/-- The three encoding formats (R90). -/
inductive Format where
  | cmd
  | bus
  | uop
  deriving DecidableEq, Repr

/-- One operation's encoding as the model is given it: its format and its bytes, the lowest first (log 3). -/
structure Packet where
  fmt : Format
  bytes : List Byte
  deriving DecidableEq, Repr

end Sys2Proof
end

