-- ==== Sys2Proof/WellFormed.lean ====
section
/-! DEFINITION. Which terms of `Instr` are operations of the engine. The operands' types carry every range but two, and both
concern `BUS.NULL` (30_encoding.md R104): its offset is aligned, and the pair it stands for is listed for no other operation. -/

namespace Sys2Proof

/-- An offset a register access may have: a multiple of 4 (R60, R65). -/
def offAligned (off : BitVec 9) : Bool := off.toNat % 4 == 0

/-- The offsets of R104's table that a read names: an operation other than `BUS.NULL`. -/
def readListed (off : BitVec 9) : Bool :=
  [0x004, 0x008, 0x00C, 0x010, 0x014, 0x018, 0x01C, 0x028, 0x02C, 0x030].contains off.toNat || 0x100 ≤ off.toNat

/-- The offsets of R104's table that a write names: an operation other than `BUS.NULL`. -/
def writeListed (off : BitVec 9) : Bool :=
  [0x000, 0x010, 0x014, 0x018, 0x01C, 0x020, 0x024].contains off.toNat

/-- A null access is aligned and is matched by no other row (R104, R265). -/
def NullAccess.wellFormed : NullAccess → Bool
  | .read off => offAligned off && !readListed off
  | .write off _ => offAligned off && !writeListed off

/-- Well-formed operations. -/
def Instr.wellFormed : Instr → Bool
  | .busNull a => a.wellFormed
  | .digest _ _ _ | .hmac _ _ _ => true
  | .wrCmd _ | .rdStatus | .rdErr | .rdWant | .rdMsglenLo | .wrMsglenLo _ | .rdMsglenHi | .wrMsglenHi _ => true
  | .rdKeylenLo | .wrKeylenLo _ | .rdKeylenHi | .wrKeylenHi _ | .wrDin _ | .wrDinctl _ => true
  | .rdRlen | .rdDlen | .rdOlen | .rdObuf _ => true
  | .rotr32 _ _ | .rotr64 _ _ | .shr32 _ _ | .shr64 _ _ | .add32 _ _ | .add64 _ _ => true
  | .bsig0x32 _ | .bsig0x64 _ | .bsig1x32 _ | .bsig1x64 _ => true
  | .ssig0x32 _ | .ssig0x64 _ | .ssig1x32 _ | .ssig1x64 _ => true
  | .ch32 _ _ _ | .ch64 _ _ _ | .maj32 _ _ _ | .maj64 _ _ _ | .bswap32 _ | .bswap64 _ => true
  | .vlookup _ _ | .kconst _ => true
  | .baNext | .baInject | .baFull | .baFinal | .baPadonly | .baLenonly | .baNorm | .baRefill => true
  | .ceLoadw | .ceSched | .ceInitv | .ceRound | .ceFold | .ceBlock => true
  | .dfRaw | .dfText | .dfRoute => true
  | .hmDerivekey | .hmKeycopy | .hmKeyhash | .hmBuildpads | .hmInner | .hmOuter | .hmDone => true
  | .drInit | .drLoop | .drEnd | .errEnter _ | .reset => true

end Sys2Proof
end

