-- ==== Sys2Proof/Decode.lean ====
section
/-! DEFINITION. Decoding (30_encoding.md): a total function from a format and bytes to an operation or a rejection by name, and
the encoder, written from the same tables. Layout (log 3): a command word is 4 bytes, a bus access a 2-byte header
(`we` in bit 9, `off` in bits [8:0]) and for a write 4 bytes of value, an internal operation its identifier and then its
operands; everything least significant byte first, as the lanes of R62 are. -/

namespace Sys2Proof

/-- `le(b0, ..., b(k-1))` (R17). -/
def leNat : List Byte → Nat
  | [] => 0
  | b :: bs => b.toNat + 256 * leNat bs

/-- The `k` low bytes of a number, least significant first: the inverse of `leNat`. -/
def leBytes : Nat → Nat → List Byte
  | 0, _ => []
  | k + 1, v => BitVec.ofNat 8 v :: leBytes k (v / 256)

/-- The first `k` bytes as a number and the bytes after them; none if there are fewer. -/
def takeLE (k : Nat) (bs : List Byte) : Option (Nat × List Byte) :=
  if bs.length < k then none else some (leNat (bs.take k), bs.drop k)

/-- Why bytes are no operation. -/
inductive DecodeError where
  /-- A command word with a reserved bit set (R95). -/
  | reservedCommandBits (v : BitVec 32)
  /-- A bus header with a bit above its ten set: outside the 512-byte window (R65, U13). -/
  | badHeader (header : BitVec 16)
  /-- A bus offset that is no multiple of 4 (R65, R106). -/
  | misaligned (off : BitVec 9)
  /-- An identifier R105 does not list. -/
  | noOperation (id : Byte)
  /-- An operand byte outside the operand's range. -/
  | badOperand (id operand : Byte)
  /-- Fewer bytes than the operation has. -/
  | truncated
  deriving DecidableEq, Repr

/-- What decoding answers: the operation and the bytes after it, or why there is none. -/
abbrev Decoded := Except DecodeError (Instr × List Byte)

/-! ## Format CMD -/

/-- The reserved bits of a command word, bits [3:2] and [31:8] (R91, R95). -/
def reservedCommandMask : BitVec 32 := 0xFFFFFF0C#32

/-- The field NAME, bits [6:4] (R91). -/
def nameField (v : BitVec 32) : BitVec 3 := v.extractLsb' 4 3

/-- The field W64, bit [7] (R91). -/
def w64Field (v : BitVec 32) : Bool := v.getLsbD 7

/-- The field TEXT, bit [1] (R91). -/
def textField (v : BitVec 32) : Bool := v.getLsbD 1

/-- The field HMAC, bit [0] (R91). -/
def hmacField (v : BitVec 32) : Bool := v.getLsbD 0

/-- `cmdword(h, t, n, w) = h + 2*t + 16*n + 128*w` (R109). -/
def cmdWord (h t : Bool) (name : BitVec 3) (w64 : Bool) : BitVec 32 :=
  BitVec.ofNat 32 (h.toNat + 2 * t.toNat + 16 * name.toNat + 128 * w64.toNat)

/-- The command a word spells: `DIGEST` or `HMAC` by bit 0 when no reserved bit is set (R92, R95). -/
def decodeCommand (v : BitVec 32) : Except DecodeError Instr :=
  if v &&& reservedCommandMask ≠ 0#32 then .error (.reservedCommandBits v)
  else if hmacField v then .ok (.hmac (textField v) (nameField v) (w64Field v))
  else .ok (.digest (textField v) (nameField v) (w64Field v))

/-! ## Format BUS -/

/-- The operation a read of an aligned offset is (R104). -/
def decodeRead (off : BitVec 9) : Instr :=
  match off.toNat with
  | 0x004 => .rdStatus
  | 0x008 => .rdErr
  | 0x00C => .rdWant
  | 0x010 => .rdMsglenLo
  | 0x014 => .rdMsglenHi
  | 0x018 => .rdKeylenLo
  | 0x01C => .rdKeylenHi
  | 0x028 => .rdRlen
  | 0x02C => .rdDlen
  | 0x030 => .rdOlen
  | _ => if 0x100 ≤ off.toNat then .rdObuf (off.extractLsb' 2 6) else .busNull (.read off)

/-- The operation a write of a value to an aligned offset is (R104). -/
def decodeWrite (off : BitVec 9) (v : BitVec 32) : Instr :=
  match off.toNat with
  | 0x000 => .wrCmd v
  | 0x010 => .wrMsglenLo v
  | 0x014 => .wrMsglenHi v
  | 0x018 => .wrKeylenLo v
  | 0x01C => .wrKeylenHi v
  | 0x020 => .wrDin v
  | 0x024 => .wrDinctl v
  | _ => .busNull (.write off v)

/-- A header and the bytes after it: bit 9 is `we`, bits [8:0] the offset (R104). -/
def decodeBus (header : Nat) (bs : List Byte) : Decoded :=
  if 1024 ≤ header then .error (.badHeader (BitVec.ofNat 16 header))
  else if header % 4 ≠ 0 then .error (.misaligned (BitVec.ofNat 9 header))
  else if header < 512 then .ok (decodeRead (BitVec.ofNat 9 header), bs)
  else
    match takeLE 4 bs with
    | none => .error .truncated
    | some (v, rest) => .ok (decodeWrite (BitVec.ofNat 9 header) (BitVec.ofNat 32 v), rest)

/-! ## Format UOP -/

/-- One operand of `k` bytes. -/
def operand1 (k : Nat) (f : Nat → Instr) (bs : List Byte) : Decoded :=
  match takeLE k bs with
  | none => .error .truncated
  | some (x, rest) => .ok (f x, rest)

/-- Two operands, of `k` and of `l` bytes. -/
def operand2 (k l : Nat) (f : Nat → Nat → Instr) (bs : List Byte) : Decoded :=
  match takeLE k bs with
  | none => .error .truncated
  | some (x, rest) => operand1 l (f x) rest

/-- Three operands of `k` bytes each. -/
def operand3 (k : Nat) (f : Nat → Nat → Nat → Instr) (bs : List Byte) : Decoded :=
  match takeLE k bs with
  | none => .error .truncated
  | some (x, rest) => operand2 k k (f x) rest

/-- One operand byte whose values need not all be operands: `f` answers none for those that are not. -/
def operandByte (id : Byte) (f : Nat → Option Instr) (bs : List Byte) : Decoded :=
  match takeLE 1 bs with
  | none => .error .truncated
  | some (x, rest) =>
    match f x with
    | none => .error (.badOperand id (BitVec.ofNat 8 x))
    | some i => .ok (i, rest)

/-- The operand of `VLOOKUP`: NAME in bits [6:4] and W64 in bit [7], as in a command word (R91), the other bits 0. -/
def vlookupOperand (x : Nat) : Option Instr :=
  if x % 16 ≠ 0 then none else some (.vlookup (BitVec.ofNat 3 (x / 16)) (decide (128 ≤ x)))

/-- The operand of `KCONST`: a round index of 7 bits (R24, R163). -/
def kconstOperand (x : Nat) : Option Instr :=
  if 128 ≤ x then none else some (.kconst (BitVec.ofNat 7 x))

/-- The error kind at a place of the order of R296, the first at 0. -/
def ErrorKind.atIndex? : Nat → Option ErrorKind
  | 0 => some .unknownVariant
  | 1 => some .sourceOpenError
  | 2 => some .sourceReadError
  | 3 => some .keySourceError
  | 4 => some .badCommand
  | _ => none

/-- The place of an error kind in the order of R296, one less than its code. -/
def ErrorKind.index : ErrorKind → Nat
  | .unknownVariant => 0
  | .sourceOpenError => 1
  | .sourceReadError => 2
  | .keySourceError => 3
  | .badCommand => 4

/-- The operand of `ERR.ENTER`: an error kind, by its place in the order of R296. -/
def errEnterOperand (x : Nat) : Option Instr := (ErrorKind.atIndex? x).map .errEnter

/-- Two-operand form of an operation on 32-bit words. -/
def word32Pair (f : BitVec 32 → BitVec 32 → Instr) (x y : Nat) : Instr := f (BitVec.ofNat 32 x) (BitVec.ofNat 32 y)

/-- Two-operand form of an operation on 64-bit words. -/
def word64Pair (f : BitVec 64 → BitVec 64 → Instr) (x y : Nat) : Instr := f (BitVec.ofNat 64 x) (BitVec.ofNat 64 y)

/-- Three-operand form of an operation on 32-bit words. -/
def word32Triple (f : BitVec 32 → BitVec 32 → BitVec 32 → Instr) (x y z : Nat) : Instr :=
  f (BitVec.ofNat 32 x) (BitVec.ofNat 32 y) (BitVec.ofNat 32 z)

/-- Three-operand form of an operation on 64-bit words. -/
def word64Triple (f : BitVec 64 → BitVec 64 → BitVec 64 → Instr) (x y z : Nat) : Instr :=
  f (BitVec.ofNat 64 x) (BitVec.ofNat 64 y) (BitVec.ofNat 64 z)

/-- An identifier and the bytes after it (R105). -/
def decodeUop (id : Byte) (bs : List Byte) : Decoded :=
  match id.toNat with
  | 0x00 => operand2 4 1 (fun x n => .rotr32 (BitVec.ofNat 32 x) (BitVec.ofNat 8 n)) bs
  | 0x80 => operand2 8 1 (fun x n => .rotr64 (BitVec.ofNat 64 x) (BitVec.ofNat 8 n)) bs
  | 0x01 => operand2 4 1 (fun x n => .shr32 (BitVec.ofNat 32 x) (BitVec.ofNat 8 n)) bs
  | 0x81 => operand2 8 1 (fun x n => .shr64 (BitVec.ofNat 64 x) (BitVec.ofNat 8 n)) bs
  | 0x02 => operand2 4 4 (word32Pair .add32) bs
  | 0x82 => operand2 8 8 (word64Pair .add64) bs
  | 0x03 => operand1 4 (fun x => .bsig0x32 (BitVec.ofNat 32 x)) bs
  | 0x83 => operand1 8 (fun x => .bsig0x64 (BitVec.ofNat 64 x)) bs
  | 0x04 => operand1 4 (fun x => .bsig1x32 (BitVec.ofNat 32 x)) bs
  | 0x84 => operand1 8 (fun x => .bsig1x64 (BitVec.ofNat 64 x)) bs
  | 0x05 => operand1 4 (fun x => .ssig0x32 (BitVec.ofNat 32 x)) bs
  | 0x85 => operand1 8 (fun x => .ssig0x64 (BitVec.ofNat 64 x)) bs
  | 0x06 => operand1 4 (fun x => .ssig1x32 (BitVec.ofNat 32 x)) bs
  | 0x86 => operand1 8 (fun x => .ssig1x64 (BitVec.ofNat 64 x)) bs
  | 0x07 => operand3 4 (word32Triple .ch32) bs
  | 0x87 => operand3 8 (word64Triple .ch64) bs
  | 0x08 => operand3 4 (word32Triple .maj32) bs
  | 0x88 => operand3 8 (word64Triple .maj64) bs
  | 0x09 => operand1 4 (fun x => .bswap32 (BitVec.ofNat 32 x)) bs
  | 0x89 => operand1 8 (fun x => .bswap64 (BitVec.ofNat 64 x)) bs
  | 0x10 => operandByte id vlookupOperand bs
  | 0x11 => operandByte id kconstOperand bs
  | 0x20 => .ok (.baNext, bs)
  | 0x21 => .ok (.baInject, bs)
  | 0x22 => .ok (.baFull, bs)
  | 0x23 => .ok (.baFinal, bs)
  | 0x24 => .ok (.baPadonly, bs)
  | 0x25 => .ok (.baLenonly, bs)
  | 0x26 => .ok (.baNorm, bs)
  | 0x27 => .ok (.baRefill, bs)
  | 0x30 => .ok (.ceLoadw, bs)
  | 0x31 => .ok (.ceSched, bs)
  | 0x32 => .ok (.ceInitv, bs)
  | 0x33 => .ok (.ceRound, bs)
  | 0x34 => .ok (.ceFold, bs)
  | 0x35 => .ok (.ceBlock, bs)
  | 0x40 => .ok (.dfRaw, bs)
  | 0x41 => .ok (.dfText, bs)
  | 0x42 => .ok (.dfRoute, bs)
  | 0x50 => .ok (.hmDerivekey, bs)
  | 0x51 => .ok (.hmKeycopy, bs)
  | 0x52 => .ok (.hmKeyhash, bs)
  | 0x53 => .ok (.hmBuildpads, bs)
  | 0x54 => .ok (.hmInner, bs)
  | 0x55 => .ok (.hmOuter, bs)
  | 0x56 => .ok (.hmDone, bs)
  | 0x60 => .ok (.drInit, bs)
  | 0x61 => .ok (.drLoop, bs)
  | 0x62 => .ok (.drEnd, bs)
  | 0x70 => operandByte id errEnterOperand bs
  | 0x71 => .ok (.reset, bs)
  | _ => .error (.noOperation id)

/-! ## All formats -/

/-- The operation a format's bytes spell and the bytes after it. -/
def decode (fmt : Format) (bs : List Byte) : Decoded :=
  match fmt with
  | .cmd =>
    match takeLE 4 bs with
    | none => .error .truncated
    | some (v, rest) =>
      match decodeCommand (BitVec.ofNat 32 v) with
      | .error e => .error e
      | .ok i => .ok (i, rest)
  | .bus =>
    match takeLE 2 bs with
    | none => .error .truncated
    | some (header, rest) => decodeBus header rest
  | .uop =>
    match bs with
    | [] => .error .truncated
    | id :: rest => decodeUop id rest

/-! ## Encoding -/

/-- The packet of a command word. -/
def encodeCommand (v : BitVec 32) : Packet := ⟨.cmd, leBytes 4 v.toNat⟩

/-- The packet of a read. -/
def encodeRead (off : Nat) : Packet := ⟨.bus, leBytes 2 off⟩

/-- The packet of a write: `we = 1` in bit 9 of the header. -/
def encodeWrite (off : Nat) (v : BitVec 32) : Packet := ⟨.bus, leBytes 2 (0x200 + off) ++ leBytes 4 v.toNat⟩

/-- The packet of an internal operation. -/
def encodeUop (id : Byte) (operands : List Byte) : Packet := ⟨.uop, id :: operands⟩

/-- A packet's words for an operation. -/
def encode : Instr → Packet
  | .digest t n w => encodeCommand (cmdWord false t n w)
  | .hmac t n w => encodeCommand (cmdWord true t n w)
  | .wrCmd v => encodeWrite 0x000 v
  | .rdStatus => encodeRead 0x004
  | .rdErr => encodeRead 0x008
  | .rdWant => encodeRead 0x00C
  | .rdMsglenLo => encodeRead 0x010
  | .wrMsglenLo v => encodeWrite 0x010 v
  | .rdMsglenHi => encodeRead 0x014
  | .wrMsglenHi v => encodeWrite 0x014 v
  | .rdKeylenLo => encodeRead 0x018
  | .wrKeylenLo v => encodeWrite 0x018 v
  | .rdKeylenHi => encodeRead 0x01C
  | .wrKeylenHi v => encodeWrite 0x01C v
  | .wrDin v => encodeWrite 0x020 v
  | .wrDinctl v => encodeWrite 0x024 v
  | .rdRlen => encodeRead 0x028
  | .rdDlen => encodeRead 0x02C
  | .rdOlen => encodeRead 0x030
  | .rdObuf i => encodeRead (0x100 + 4 * i.toNat)
  | .busNull (.read off) => encodeRead off.toNat
  | .busNull (.write off v) => encodeWrite off.toNat v
  | .rotr32 x n => encodeUop 0x00#8 (leBytes 4 x.toNat ++ leBytes 1 n.toNat)
  | .rotr64 x n => encodeUop 0x80#8 (leBytes 8 x.toNat ++ leBytes 1 n.toNat)
  | .shr32 x n => encodeUop 0x01#8 (leBytes 4 x.toNat ++ leBytes 1 n.toNat)
  | .shr64 x n => encodeUop 0x81#8 (leBytes 8 x.toNat ++ leBytes 1 n.toNat)
  | .add32 x y => encodeUop 0x02#8 (leBytes 4 x.toNat ++ leBytes 4 y.toNat)
  | .add64 x y => encodeUop 0x82#8 (leBytes 8 x.toNat ++ leBytes 8 y.toNat)
  | .bsig0x32 x => encodeUop 0x03#8 (leBytes 4 x.toNat)
  | .bsig0x64 x => encodeUop 0x83#8 (leBytes 8 x.toNat)
  | .bsig1x32 x => encodeUop 0x04#8 (leBytes 4 x.toNat)
  | .bsig1x64 x => encodeUop 0x84#8 (leBytes 8 x.toNat)
  | .ssig0x32 x => encodeUop 0x05#8 (leBytes 4 x.toNat)
  | .ssig0x64 x => encodeUop 0x85#8 (leBytes 8 x.toNat)
  | .ssig1x32 x => encodeUop 0x06#8 (leBytes 4 x.toNat)
  | .ssig1x64 x => encodeUop 0x86#8 (leBytes 8 x.toNat)
  | .ch32 x y z => encodeUop 0x07#8 (leBytes 4 x.toNat ++ leBytes 4 y.toNat ++ leBytes 4 z.toNat)
  | .ch64 x y z => encodeUop 0x87#8 (leBytes 8 x.toNat ++ leBytes 8 y.toNat ++ leBytes 8 z.toNat)
  | .maj32 x y z => encodeUop 0x08#8 (leBytes 4 x.toNat ++ leBytes 4 y.toNat ++ leBytes 4 z.toNat)
  | .maj64 x y z => encodeUop 0x88#8 (leBytes 8 x.toNat ++ leBytes 8 y.toNat ++ leBytes 8 z.toNat)
  | .bswap32 x => encodeUop 0x09#8 (leBytes 4 x.toNat)
  | .bswap64 x => encodeUop 0x89#8 (leBytes 8 x.toNat)
  | .vlookup n w => encodeUop 0x10#8 (leBytes 1 (16 * n.toNat + 128 * w.toNat))
  | .kconst t => encodeUop 0x11#8 (leBytes 1 t.toNat)
  | .baNext => encodeUop 0x20#8 []
  | .baInject => encodeUop 0x21#8 []
  | .baFull => encodeUop 0x22#8 []
  | .baFinal => encodeUop 0x23#8 []
  | .baPadonly => encodeUop 0x24#8 []
  | .baLenonly => encodeUop 0x25#8 []
  | .baNorm => encodeUop 0x26#8 []
  | .baRefill => encodeUop 0x27#8 []
  | .ceLoadw => encodeUop 0x30#8 []
  | .ceSched => encodeUop 0x31#8 []
  | .ceInitv => encodeUop 0x32#8 []
  | .ceRound => encodeUop 0x33#8 []
  | .ceFold => encodeUop 0x34#8 []
  | .ceBlock => encodeUop 0x35#8 []
  | .dfRaw => encodeUop 0x40#8 []
  | .dfText => encodeUop 0x41#8 []
  | .dfRoute => encodeUop 0x42#8 []
  | .hmDerivekey => encodeUop 0x50#8 []
  | .hmKeycopy => encodeUop 0x51#8 []
  | .hmKeyhash => encodeUop 0x52#8 []
  | .hmBuildpads => encodeUop 0x53#8 []
  | .hmInner => encodeUop 0x54#8 []
  | .hmOuter => encodeUop 0x55#8 []
  | .hmDone => encodeUop 0x56#8 []
  | .drInit => encodeUop 0x60#8 []
  | .drLoop => encodeUop 0x61#8 []
  | .drEnd => encodeUop 0x62#8 []
  | .errEnter k => encodeUop 0x70#8 (leBytes 1 k.index)
  | .reset => encodeUop 0x71#8 []

/-! ## Words as the opcode table numbers them -/

/-- The format of a row by its width in whole bytes: 8 bits UOP, 16 (the 10 of a header) BUS, 32 CMD. -/
def formatOfBits (nbits : Nat) : Format :=
  if nbits ≤ 8 then .uop else if nbits ≤ 16 then .bus else .cmd

/-- The bytes of the longest operation of a format: `CH.64` and `MAJ.64` with three 8-byte operands, a write, a command word. -/
def longestBytes : Format → Nat
  | .cmd => 4
  | .bus => 6
  | .uop => 25

/-- The packet of a row's word: its bytes, and zeros up to the longest operation of its format. -/
def Packet.ofTableWord (nbits w : Nat) : Packet :=
  ⟨formatOfBits nbits, leBytes (longestBytes (formatOfBits nbits)) (w % 2 ^ nbits)⟩

/-- The operation the decoder reads from a word of the opcode table's numbering. -/
def decodeTableWord (nbits w : Nat) : Option Instr :=
  match decode (Packet.ofTableWord nbits w).fmt (Packet.ofTableWord nbits w).bytes with
  | .ok (i, _) => some i
  | .error _ => none

end Sys2Proof
end

