-- ==== Sys2Proof/Config.lean ====
section
/-! DEFINITION. What is fixed for one engine and not part of its state: the parameters (00_scope.md R11, R12; 10_state.md R43)
and the free values, results the spec leaves undefined. -/

namespace Sys2Proof.Config

/-- By how much the read-ahead capacity exceeds one block of the wider variants. No body: nothing is known of it (log 4). -/
opaque raBytesExtra : Nat

/-- `RA_BYTES`, the capacity of the read-ahead window: any natural number of at least 128 (R11, D24; log 4). -/
def raBytes : Nat := raBytesExtra + 128

/-- `HALF_T256`: false for this hardware, "512/256" emits four full words (R12, D15; log 16). -/
def halfT256 : Bool := false

/-- Free value: `ROTR.32(x, n)` for `n = 0` and `n >= 32`, left undefined by R121 (U14; log 5). -/
opaque rotrUndefined32 : BitVec 32 → BitVec 8 → BitVec 32

/-- Free value: `ROTR.64(x, n)` for `n = 0` and `n >= 64`, left undefined by R121 (U14; log 5). -/
opaque rotrUndefined64 : BitVec 64 → BitVec 8 → BitVec 64

/-- Free value: `SHR.32(x, n)` for `n >= 32`, outside the operand range of R122 (U14; log 5). -/
opaque shrUndefined32 : BitVec 32 → BitVec 8 → BitVec 32

/-- Free value: `SHR.64(x, n)` for `n >= 64`, outside the operand range of R122 (U14; log 5). -/
opaque shrUndefined64 : BitVec 64 → BitVec 8 → BitVec 64

/-- Free value: `KCONST(t)` for `t >= NR`, never evaluated by the engine (R163, U15; log 6). -/
opaque kconstUndefined : Width → BitVec 7 → Word

end Sys2Proof.Config
end

