-- ==== Sys2Proof/Machine/State.lean ====
section
/-! DEFINITION. The state of the engine (10_state.md), of the model around it, and the reasons a step can stop. -/

namespace Sys2Proof.Machine

/-- `STAGE`, in the order of its codes 0 to 7 (R40). -/
inductive Stage where
  | idle
  | derivekey
  | buildpads
  | inner
  | outer
  | done
  | plain
  | error
  deriving DecidableEq, Repr

/-- `PHASE`, in the order of its codes 0 to 4 (R41). -/
inductive Phase where
  | init
  | assemble
  | compress
  | format
  | keycopy
  deriving DecidableEq, Repr

/-- `SRC`, which source feeds the current digest run, in the order of its codes 0 to 3 (R32). -/
inductive Src where
  | none
  | key
  | msg
  | innerd
  deriving DecidableEq, Repr

/-- The eight working variables of the compression function (R22). -/
structure Vars where
  a : Word
  b : Word
  c : Word
  d : Word
  e : Word
  f : Word
  g : Word
  h : Word
  deriving DecidableEq, Repr

/-- The state the spec gives the engine (10_state.md), each field under the spec's name for it. -/
structure Engine where
  /-- `STAGE` (R40). -/
  stage : Stage
  /-- `PHASE` (R41). -/
  phase : Phase
  /-- `T`, the round index (R24). -/
  t : BitVec 7
  /-- `H[0..7]`, the HashState (R21). -/
  h : Vector Word 8
  /-- `a .. h` (R22). -/
  vars : Vars
  /-- `w[0..79]`, the message schedule (R23). -/
  w : Vector Word 80
  /-- `BLK[0..127]`, the block in message order (R25). -/
  blk : Vector Byte 128
  /-- `IBLK[0..127]`, the injected block (R26). -/
  iblk : Vector Byte 128
  /-- `INJV`: an injected block is supplied and not yet emitted (R26). -/
  injv : Bool
  /-- `KEYBLK[0..127]` (R27). -/
  keyblk : Vector Byte 128
  /-- `IKB[0..127]`, innerKeyBlock (R27). -/
  ikb : Vector Byte 128
  /-- `OKB[0..127]`, outerKeyBlock (R27). -/
  okb : Vector Byte 128
  /-- `DBUF[0..63]`, the raw digest of the run that just ended (R28). -/
  dbuf : Vector Byte 64
  /-- `INNERD[0..63]`, the raw inner digest (R28). -/
  innerd : Vector Byte 64
  /-- `TOTAL` (R29). -/
  total : BitVec 65
  /-- `CONSUMED` (R30). -/
  consumed : BitVec 66
  /-- `RA`, the read-ahead window, the head first (R31). -/
  ra : List Byte
  /-- `RCVD` (R32). -/
  rcvd : BitVec 64
  /-- `SRC` (R32). -/
  src : Src
  /-- `SRCLEN` (R32). -/
  srcLen : BitVec 64
  /-- `IPOS` (R32). -/
  ipos : BitVec 7
  /-- `TERM`: the block in `BLK` is the terminal block (R33). -/
  term : Bool
  /-- `OPH`: the latched command is HMAC (R34). -/
  oph : Bool
  /-- `TEXT`: the latched command asks for text (R34). -/
  text : Bool
  /-- `NAME`: the latched variant (R34). -/
  name : Variant
  /-- `W64`: the latched width bit (R34). -/
  w64 : Bool
  /-- `MSGLEN` (R35). -/
  msgLen : BitVec 64
  /-- `KEYLEN` (R35). -/
  keyLen : BitVec 64
  /-- `MLEN` (R35). -/
  mlen : BitVec 64
  /-- `KLEN` (R35). -/
  klen : BitVec 64
  /-- `ERR` (R36, R97): none, or the kind of the error. -/
  err : Option ErrorKind
  /-- `RLEN` (R36). -/
  rlen : BitVec 4
  /-- `DLEN`, the register (R36). -/
  dlen : BitVec 7
  /-- `OLEN` (R36). -/
  olen : BitVec 8
  /-- `OBUF[0..255]` (R36). -/
  obuf : Vector Byte 256
  deriving DecidableEq, Repr

/-- The parameters of a variant, one row of the table of R152, as `VLOOKUP` returns it. -/
structure Params where
  variant : Variant
  width : Width
  blockBytes : Nat
  stateWords : Nat
  rounds : Nat
  lenField : Nat
  iv : Vector Word 8
  digestWords : Nat
  digestBytes : Nat
  textChars : Nat
  deriving DecidableEq, Repr

/-- A value an operation returns (log 2). -/
inductive Output where
  /-- Nothing has been returned yet. -/
  | none
  /-- The data of a bus read (R60). -/
  | bus (v : BitVec 32)
  /-- The result of an operation on 32-bit words. -/
  | word32 (v : BitVec 32)
  /-- The result of an operation on 64-bit words. -/
  | word64 (v : BitVec 64)
  /-- A row of the VariantTable (R150). -/
  | params (p : Params)
  /-- A view of 16 message words (R181). -/
  | words (m : List Word)
  /-- A byte string that is no state, the text `TXT` (R224). -/
  | bytes (b : List Byte)
  deriving DecidableEq, Repr

/-- The state of the model: the engine, the steps still to come and the value last returned. -/
structure State where
  /-- The state the spec gives the engine. -/
  eng : Engine
  /-- The model's own: the steps to come, the first first (R255; log 1). -/
  sched : List Packet
  /-- The model's own: the value the last value-returning operation returned (log 2). -/
  out : Output
  deriving DecidableEq, Repr

/-- No step faults: the spec's errors (60_exceptions.md) are next states, and no access raises a fault (R84, R290). -/
inductive Fault where
  deriving DecidableEq, Repr

/-- Why a step has no meaning. All but the first are raised by the fetch of a packet that is no operation of the spec, and are
safe: the model stops where the spec gives nothing to do. -/
inductive Refusal where
  /-- Raised by `exec` for an instruction without a meaning; safe. -/
  | notModelled (mnemonic : String)
  /-- A bus header with bits above its ten: no offset of the window (R65, U13); safe. -/
  | outsideWindow (header : BitVec 16)
  /-- A bus access at an offset that is no multiple of 4, which a model refuses (R65, R106); safe. -/
  | misalignedAccess (off : BitVec 9)
  /-- An identifier that names no operation (R105); safe. -/
  | noSuchOperation (id : Byte)
  /-- An operand outside its operation's operands; safe. -/
  | noSuchOperand (id operand : Byte)
  /-- A packet shorter than its operation; safe. -/
  | truncatedPacket
  deriving DecidableEq, Repr

/-- All working variables zero (R44). -/
def Vars.zero : Vars := ⟨0, 0, 0, 0, 0, 0, 0, 0⟩

/-- The engine right after reset: everything zero or empty (R44, R320). -/
def Engine.reset : Engine where
  stage := .idle
  phase := .init
  t := 0
  h := Vector.replicate 8 0
  vars := Vars.zero
  w := Vector.replicate 80 0
  blk := Vector.replicate 128 0
  iblk := Vector.replicate 128 0
  injv := false
  keyblk := Vector.replicate 128 0
  ikb := Vector.replicate 128 0
  okb := Vector.replicate 128 0
  dbuf := Vector.replicate 64 0
  innerd := Vector.replicate 64 0
  total := 0
  consumed := 0
  ra := []
  rcvd := 0
  src := .none
  srcLen := 0
  ipos := 0
  term := false
  oph := false
  text := false
  name := .v224
  w64 := false
  msgLen := 0
  keyLen := 0
  mlen := 0
  klen := 0
  err := none
  rlen := 0
  dlen := 0
  olen := 0
  obuf := Vector.replicate 256 0

/-- The machine right after reset: the engine reset (R320), no step to come and nothing returned (log 1, log 2). -/
def State.reset : State where
  eng := Engine.reset
  sched := []
  out := .none

end Sys2Proof.Machine
end

