-- ==== Sys2Proof/Machine/Tables.lean ====
section
/-! DEFINITION. The constant tables of the VariantTable (41_variant_table.md), a read-only memory and no part of the state
(R43, R164), and the names and codes of variants and error kinds. -/

namespace Sys2Proof.Machine

/-- `K32[0..63]` (R159), eight entries a line. -/
def k32 : List (BitVec 32) :=
  [0x428a2f98#32, 0x71374491#32, 0xb5c0fbcf#32, 0xe9b5dba5#32, 0x3956c25b#32, 0x59f111f1#32, 0x923f82a4#32, 0xab1c5ed5#32] ++
  [0xd807aa98#32, 0x12835b01#32, 0x243185be#32, 0x550c7dc3#32, 0x72be5d74#32, 0x80deb1fe#32, 0x9bdc06a7#32, 0xc19bf174#32] ++
  [0xe49b69c1#32, 0xefbe4786#32, 0x0fc19dc6#32, 0x240ca1cc#32, 0x2de92c6f#32, 0x4a7484aa#32, 0x5cb0a9dc#32, 0x76f988da#32] ++
  [0x983e5152#32, 0xa831c66d#32, 0xb00327c8#32, 0xbf597fc7#32, 0xc6e00bf3#32, 0xd5a79147#32, 0x06ca6351#32, 0x14292967#32] ++
  [0x27b70a85#32, 0x2e1b2138#32, 0x4d2c6dfc#32, 0x53380d13#32, 0x650a7354#32, 0x766a0abb#32, 0x81c2c92e#32, 0x92722c85#32] ++
  [0xa2bfe8a1#32, 0xa81a664b#32, 0xc24b8b70#32, 0xc76c51a3#32, 0xd192e819#32, 0xd6990624#32, 0xf40e3585#32, 0x106aa070#32] ++
  [0x19a4c116#32, 0x1e376c08#32, 0x2748774c#32, 0x34b0bcb5#32, 0x391c0cb3#32, 0x4ed8aa4a#32, 0x5b9cca4f#32, 0x682e6ff3#32] ++
  [0x748f82ee#32, 0x78a5636f#32, 0x84c87814#32, 0x8cc70208#32, 0x90befffa#32, 0xa4506ceb#32, 0xbef9a3f7#32, 0xc67178f2#32]

/-- `K64[0..79]` (R160), four entries a line. -/
def k64 : List (BitVec 64) :=
  [0x428a2f98d728ae22#64, 0x7137449123ef65cd#64, 0xb5c0fbcfec4d3b2f#64, 0xe9b5dba58189dbbc#64] ++
  [0x3956c25bf348b538#64, 0x59f111f1b605d019#64, 0x923f82a4af194f9b#64, 0xab1c5ed5da6d8118#64] ++
  [0xd807aa98a3030242#64, 0x12835b0145706fbe#64, 0x243185be4ee4b28c#64, 0x550c7dc3d5ffb4e2#64] ++
  [0x72be5d74f27b896f#64, 0x80deb1fe3b1696b1#64, 0x9bdc06a725c71235#64, 0xc19bf174cf692694#64] ++
  [0xe49b69c19ef14ad2#64, 0xefbe4786384f25e3#64, 0x0fc19dc68b8cd5b5#64, 0x240ca1cc77ac9c65#64] ++
  [0x2de92c6f592b0275#64, 0x4a7484aa6ea6e483#64, 0x5cb0a9dcbd41fbd4#64, 0x76f988da831153b5#64] ++
  [0x983e5152ee66dfab#64, 0xa831c66d2db43210#64, 0xb00327c898fb213f#64, 0xbf597fc7beef0ee4#64] ++
  [0xc6e00bf33da88fc2#64, 0xd5a79147930aa725#64, 0x06ca6351e003826f#64, 0x142929670a0e6e70#64] ++
  [0x27b70a8546d22ffc#64, 0x2e1b21385c26c926#64, 0x4d2c6dfc5ac42aed#64, 0x53380d139d95b3df#64] ++
  [0x650a73548baf63de#64, 0x766a0abb3c77b2a8#64, 0x81c2c92e47edaee6#64, 0x92722c851482353b#64] ++
  [0xa2bfe8a14cf10364#64, 0xa81a664bbc423001#64, 0xc24b8b70d0f89791#64, 0xc76c51a30654be30#64] ++
  [0xd192e819d6ef5218#64, 0xd69906245565a910#64, 0xf40e35855771202a#64, 0x106aa07032bbd1b8#64] ++
  [0x19a4c116b8d2d0c8#64, 0x1e376c085141ab53#64, 0x2748774cdf8eeb99#64, 0x34b0bcb5e19b48a8#64] ++
  [0x391c0cb3c5c95a63#64, 0x4ed8aa4ae3418acb#64, 0x5b9cca4f7763e373#64, 0x682e6ff3d6b2b8a3#64] ++
  [0x748f82ee5defb2fc#64, 0x78a5636f43172f60#64, 0x84c87814a1f0ab72#64, 0x8cc702081a6439ec#64] ++
  [0x90befffa23631e28#64, 0xa4506cebde82bde9#64, 0xbef9a3f7b2c67915#64, 0xc67178f2e372532b#64] ++
  [0xca273eceea26619c#64, 0xd186b8c721c0c207#64, 0xeada7dd6cde0eb1e#64, 0xf57d4f7fee6ed178#64] ++
  [0x06f067aa72176fba#64, 0x0a637dc5a2c898a6#64, 0x113f9804bef90dae#64, 0x1b710b35131c471b#64] ++
  [0x28db77f523047d84#64, 0x32caab7b40c72493#64, 0x3c9ebe0a15c9bebc#64, 0x431d67c49c100d4c#64] ++
  [0x4cc5d4becb3e42b6#64, 0x597f299cfc657e2a#64, 0x5fcb6fab3ad6faec#64, 0x6c44198c4a475817#64]

/-- The initial vector of a variant, `H[0]` first, 32-bit words zero-extended (R153 to R158, R259). -/
def iv : Variant → Vector Word 8
  | .v224 =>
    #v[0xc1059ed8#64, 0x367cd507#64, 0x3070dd17#64, 0xf70e5939#64,
       0xffc00b31#64, 0x68581511#64, 0x64f98fa7#64, 0xbefa4fa4#64]
  | .v256 =>
    #v[0x6a09e667#64, 0xbb67ae85#64, 0x3c6ef372#64, 0xa54ff53a#64,
       0x510e527f#64, 0x9b05688c#64, 0x1f83d9ab#64, 0x5be0cd19#64]
  | .v384 =>
    #v[0xcbbb9d5dc1059ed8#64, 0x629a292a367cd507#64, 0x9159015a3070dd17#64, 0x152fecd8f70e5939#64,
       0x67332667ffc00b31#64, 0x8eb44a8768581511#64, 0xdb0c2e0d64f98fa7#64, 0x47b5481dbefa4fa4#64]
  | .v512 =>
    #v[0x6a09e667f3bcc908#64, 0xbb67ae8584caa73b#64, 0x3c6ef372fe94f82b#64, 0xa54ff53a5f1d36f1#64,
       0x510e527fade682d1#64, 0x9b05688c2b3e6c1f#64, 0x1f83d9abfb41bd6b#64, 0x5be0cd19137e2179#64]
  | .v512t224 =>
    #v[0x8c3d37c819544da2#64, 0x73e1996689dcd4d6#64, 0x1dfab7ae32ff9c82#64, 0x679dd514582f9fcf#64,
       0x0f6d2b697bd44da8#64, 0x77e36f7304c48942#64, 0x3f9d85a86a1d36c8#64, 0x1112e6ad91d692a1#64]
  | .v512t256 =>
    #v[0x22312194fc2bf72c#64, 0x9f555fa3c84c64c2#64, 0x2393b86b6f53b151#64, 0x963877195940eabd#64,
       0x96283ee2a88effe3#64, 0xbe5e1e2553863992#64, 0x2b0199fc2c85b8aa#64, 0x0eb72ddc81c52ca2#64]

/-- The word width of a variant, column W (R93, R152). -/
def variantWidth : Variant → Width
  | .v224 | .v256 => .w32
  | .v384 | .v512 | .v512t224 | .v512t256 => .w64

/-- `B`, the block size in bytes: 16 words (R10, R152). -/
def blockBytes : Width → Nat
  | .w32 => 64
  | .w64 => 128

/-- `NR`, the number of rounds and of round constants (R10, R152). -/
def roundCount : Width → Nat
  | .w32 => 64
  | .w64 => 80

/-- `LF`, the bytes that must be free after the 0x80 byte (R10, R152). -/
def lenFieldBytes : Width → Nat
  | .w32 => 8
  | .w64 => 16

/-- `NW`, the state words that survive truncation, a half word counted as one (R152, R223). -/
def digestWords : Variant → Nat
  | .v224 => 7
  | .v256 => 8
  | .v384 => 6
  | .v512 => 8
  | .v512t224 => 4
  | .v512t256 => 4

/-- Whether only the upper half of the last surviving word is emitted: "512/224", and "512/256" if `HALF_T256` (R161, R222). -/
def lastWordHalved : Variant → Bool
  | .v512t224 => true
  | .v512t256 => Config.halfT256
  | .v224 | .v256 | .v384 | .v512 => false

/-- `DLEN`, the digest length in bytes: `NW * WB`, less four where the last word is halved (R152, R161). -/
def digestBytes (v : Variant) : Nat :=
  digestWords v * (variantWidth v).bytes - (if lastWordHalved v then 4 else 0)

/-- The row of R152's table for a variant. -/
def paramsOf (v : Variant) : Params where
  variant := v
  width := variantWidth v
  blockBytes := blockBytes (variantWidth v)
  stateWords := 8
  rounds := roundCount (variantWidth v)
  lenField := lenFieldBytes (variantWidth v)
  iv := iv v
  digestWords := digestWords v
  digestBytes := digestBytes v
  textChars := 2 * digestBytes v

/-- `VLOOKUP(name, w64)`: the variant of a NAME code and a W64 bit, none for the ten pairs that name no variant (R94, R150). -/
def lookupVariant (name : BitVec 3) (w64 : Bool) : Option Variant :=
  match name.toNat, w64 with
  | 0, false => some .v224
  | 1, false => some .v256
  | 2, true => some .v384
  | 3, true => some .v512
  | 4, true => some .v512t224
  | 5, true => some .v512t256
  | _, _ => none

/-- `KCONST(t)` for `t < NR` at a width, as a 64-bit register holds it (R163). -/
def roundConstant (wd : Width) (t : Nat) : Word :=
  match wd with
  | .w32 => ((k32[t]?).getD 0).setWidth 64
  | .w64 => (k64[t]?).getD 0

/-- The code of an error kind in `ERR` (R97, R296). -/
def errorCode : ErrorKind → BitVec 3
  | .unknownVariant => 1
  | .sourceOpenError => 2
  | .sourceReadError => 3
  | .keySourceError => 4
  | .badCommand => 5

/-- The code of a stage (R40). -/
def stageCode : Stage → BitVec 3
  | .idle => 0
  | .derivekey => 1
  | .buildpads => 2
  | .inner => 3
  | .outer => 4
  | .done => 5
  | .plain => 6
  | .error => 7

end Sys2Proof.Machine
end

