-- ==== Sys2Proof/Machine/Operands.lean ====
section
/-! DEFINITION. Byte order, buffers and the operand forms the operations share: big-endian words and bytes (00_scope.md R17,
20_memory.md R68, R69), byte buffers written from lists, register halves (R62, R264), and how the two widths use 64-bit
registers (10_state.md R21). -/

namespace Sys2Proof.Machine

/-- `be(b0, ..., b(k-1))` (R17). -/
def beNat (bs : List Byte) : Nat := leNat bs.reverse

/-- `be_bytes_k(v)`: the `k` low bytes of a number, most significant first (R17). -/
def beBytes (k v : Nat) : List Byte := (leBytes k v).reverse

/-- A buffer with its first bytes overwritten by a list, the others as they were: `X[0..k-1] <- l` (R16). -/
def overwrite {n : Nat} (buf : Vector Byte n) (l : List Byte) : Vector Byte n :=
  Vector.ofFn fun i => l.getD i.val buf[i]

/-- A buffer that holds a list and then zeros: `X[0..k-1] <- l; X[k..n-1] <- 0`. -/
def zeroFilled (n : Nat) (l : List Byte) : Vector Byte n := Vector.ofFn fun i => l.getD i.val 0

/-- `X[i .. i+k-1]`, a slice of a buffer (R16). -/
def slice {n : Nat} (buf : Vector Byte n) (i k : Nat) : List Byte := (buf.toList.drop i).take k

/-- The word `j` of a block: `be(BLK[j*WB], ..., BLK[j*WB + WB - 1])` (R68, R181). -/
def messageWord (wd : Width) (blk : Vector Byte 128) (j : Nat) : Word :=
  BitVec.ofNat 64 (beNat (slice blk (j * wd.bytes) wd.bytes))

/-- `M[0..15]`, the message words of a block (R181). -/
def messageWords (wd : Width) (blk : Vector Byte 128) : List Word := (List.range 16).map (messageWord wd blk)

/-- A function of one word at both widths, on 64-bit registers: at width 32 the low half is used and the upper half of the
result is zero (R21, D25; log 14). -/
def atWidth1 (wd : Width) (f32 : BitVec 32 → BitVec 32) (f64 : BitVec 64 → BitVec 64) (x : Word) : Word :=
  match wd with
  | .w32 => (f32 (x.setWidth 32)).setWidth 64
  | .w64 => f64 x

/-- A function of two words at both widths, as `atWidth1`. -/
def atWidth2 (wd : Width) (f32 : BitVec 32 → BitVec 32 → BitVec 32) (f64 : BitVec 64 → BitVec 64 → BitVec 64)
    (x y : Word) : Word :=
  match wd with
  | .w32 => (f32 (x.setWidth 32) (y.setWidth 32)).setWidth 64
  | .w64 => f64 x y

/-- A function of three words at both widths, as `atWidth1`. -/
def atWidth3 (wd : Width) (f32 : BitVec 32 → BitVec 32 → BitVec 32 → BitVec 32)
    (f64 : BitVec 64 → BitVec 64 → BitVec 64 → BitVec 64) (x y z : Word) : Word :=
  match wd with
  | .w32 => (f32 (x.setWidth 32) (y.setWidth 32) (z.setWidth 32)).setWidth 64
  | .w64 => f64 x y z

/-- A 64-bit register with its low half written: `X[31:0] <- v` (R264). -/
def setLow (x : BitVec 64) (v : BitVec 32) : BitVec 64 := x.extractLsb' 32 32 ++ v

/-- A 64-bit register with its high half written: `X[63:32] <- v` (R264). -/
def setHigh (x : BitVec 64) (v : BitVec 32) : BitVec 64 := v ++ x.extractLsb' 0 32

/-- `X[31:0]` (R62). -/
def lowHalf (x : BitVec 64) : BitVec 32 := x.extractLsb' 0 32

/-- `X[63:32]` (R62). -/
def highHalf (x : BitVec 64) : BitVec 32 := x.extractLsb' 32 32

/-- The stream byte of a `DIN` write, bits [7:0]; bits [31:8] are ignored (R100). -/
def dinByte (v : BitVec 32) : Byte := v.extractLsb' 0 8

/-- The EOF bit of a `DINCTL` write (R75, R101). -/
def dinctlEof (v : BitVec 32) : Bool := v.getLsbD 0

/-- The READFAIL bit of a `DINCTL` write (R75, R101). -/
def dinctlReadfail (v : BitVec 32) : Bool := v.getLsbD 1

/-- The OPENFAIL bit of a `DINCTL` write (R75, R101). -/
def dinctlOpenfail (v : BitVec 32) : Bool := v.getLsbD 2

/-- `OBUF` word `i`: `le(OBUF[4i], ..., OBUF[4i+3])` (R62, R267). -/
def obufWord (obuf : Vector Byte 256) (i : Nat) : BitVec 32 := BitVec.ofNat 32 (leNat (slice obuf (4 * i) 4))

/-- `hexdigit(v)`: the ASCII code of the character at index `v` of `0123456789abcdef` (R225). -/
def hexDigit (v : Nat) : Byte := BitVec.ofNat 8 (if v < 10 then 0x30 + v else 0x61 + (v - 10))

/-- The two digits of a byte, high half first (R224). -/
def hexPair (b : Byte) : List Byte := [hexDigit (b.toNat / 16), hexDigit (b.toNat % 16)]

end Sys2Proof.Machine
end

