-- ==== Sys2Proof/Machine/Flags.lean ====
section
/-! DEFINITION. The derived signals of the engine, functions of its state recomputed whenever read (10_state.md R42), and the
`STATUS` word (30_encoding.md R96). The engine has no arithmetic flags (R33). -/

namespace Sys2Proof.Machine

/-- `BUSY = STAGE not in {IDLE, DONE, ERROR}` (R42). -/
def Engine.busy (e : Engine) : Bool :=
  match e.stage with
  | .idle | .done | .error => false
  | .derivekey | .buildpads | .inner | .outer | .plain => true

/-- `DONE = (STAGE == DONE)` (R42). -/
def Engine.isDone (e : Engine) : Bool := decide (e.stage = .done)

/-- `ERROR = (STAGE == ERROR)` (R42). -/
def Engine.isError (e : Engine) : Bool := decide (e.stage = .error)

/-- `REQ`: 1 key bytes wanted, 2 message bytes wanted, 0 none (R42). -/
def Engine.req (e : Engine) : BitVec 2 :=
  match e.stage with
  | .derivekey => if e.rcvd.toNat < e.klen.toNat then 1 else 0
  | .inner | .plain => if e.rcvd.toNat < e.mlen.toNat then 2 else 0
  | .idle | .buildpads | .outer | .done | .error => 0

/-- `WANT`: how many bytes `DIN` accepts now (R42, R72). -/
def Engine.want (e : Engine) : Nat :=
  if e.req = 0 then 0
  else min (min (Config.raBytes - e.ra.length) (e.srcLen.toNat - e.rcvd.toNat)) (2 ^ 32 - 1)

/-- `STATUS`: `STAGE ‖ 000 ‖ REQ ‖ ERROR ‖ DONE ‖ BUSY`, zero-extended (R96, R263). -/
def Engine.statusWord (e : Engine) : BitVec 32 :=
  (stageCode e.stage ++ (0#3) ++ e.req ++ BitVec.ofBool e.isError ++ BitVec.ofBool e.isDone ++ BitVec.ofBool e.busy).setWidth 32

/-- `ERR`: the error code, 0 for none (R97). -/
def Engine.errWord (e : Engine) : BitVec 32 :=
  match e.err with
  | none => 0
  | some k => (errorCode k).setWidth 32

/-- The stages that contain a digest run (R259, R262). -/
def Stage.isRun : Stage → Bool
  | .derivekey | .inner | .outer | .plain => true
  | .idle | .buildpads | .done | .error => false

/-- The sequencer stands at a phase of a digest run (R262). -/
def Engine.atPhase (e : Engine) (p : Phase) : Bool := e.stage.isRun && decide (e.phase = p)

/-- The width of the running variant (R152; log 15). -/
def Engine.width (e : Engine) : Width := variantWidth e.name

/-- `B` of the running variant (R152). -/
def Engine.blockSize (e : Engine) : Nat := blockBytes e.width

/-- `LF` of the running variant (R152). -/
def Engine.lenField (e : Engine) : Nat := lenFieldBytes e.width

/-- `NR` of the running variant (R152). -/
def Engine.rounds (e : Engine) : Nat := roundCount e.width

/-- `remaining = TOTAL - CONSUMED`, a signed integer (R172). -/
def Engine.remaining (e : Engine) : Int := (e.total.toNat : Int) - (e.consumed.toNat : Int)

end Sys2Proof.Machine
end

