-- ==== Sys2Proof/Machine/Ops.lean ====
section
/-! DEFINITION. The operations the meanings share: answering a step, entering an error (60_exceptions.md R300), the byte source
(20_memory.md R74) and the read side of the register window (R60). There is no return from an error (R301). -/

namespace Sys2Proof.Machine

/-- What a step or a meaning answers. -/
abbrev Outcome := Host.Outcome State Fault Refusal

/-- The state with another engine. -/
def State.withEng (s : State) (e : Engine) : State := { s with eng := e }

/-- The state with a returned value. -/
def State.returning (s : State) (o : Output) : State := { s with out := o }

/-- A step that changes the engine. -/
def State.act (s : State) (e : Engine) : Outcome := .next (s.withEng e)

/-- A step that changes nothing (R18, R61). -/
def State.idle (s : State) : Outcome := .next s

/-- A step that returns a value and changes nothing of the engine (R60). -/
def State.answer (s : State) (o : Output) : Outcome := .next (s.returning o)

/-- An operation that waits while it is not enabled: no state changes then (R18; log 8). -/
def State.actIf (s : State) (enabled : Bool) (e : Engine) : Outcome := if enabled then s.act e else s.idle

/-- Every register, buffer, flag and queue but `MSGLEN` and `KEYLEN` at its reset value (R256 step 1, R300). -/
def Engine.cleared (e : Engine) : Engine := { Engine.reset with msgLen := e.msgLen, keyLen := e.keyLen }

/-- `ERR.ENTER(kind)`: error entry (R300). It saves nothing but the kind (R297). -/
def Engine.enterError (e : Engine) (k : ErrorKind) : Engine := { e.cleared with stage := .error, err := some k }

/-- `raise <kind>`: error entry, and the end of the rule (R18, R300). -/
def State.raise (s : State) (k : ErrorKind) : Outcome := s.act (s.eng.enterError k)

/-- `SrcAvail()` (R74); no bytes when no source is selected (log 9), nor where `SRCLEN - IPOS` would be negative (log 26). -/
def Engine.srcAvail (e : Engine) : Nat :=
  match e.src with
  | .key | .msg => e.ra.length
  | .innerd => e.srcLen.toNat - e.ipos.toNat
  | .none => 0

/-- The bytes `SrcTake(n)` returns (R74); none from past the end of `INNERD` (log 29). -/
def Engine.srcBytes (e : Engine) (n : Nat) : List Byte :=
  match e.src with
  | .key | .msg => e.ra.take n
  | .innerd => slice e.innerd e.ipos.toNat n
  | .none => []

/-- The engine after `SrcTake(n)` (R74). -/
def Engine.srcTaken (e : Engine) (n : Nat) : Engine :=
  match e.src with
  | .key | .msg => { e with ra := e.ra.drop n }
  | .innerd => { e with ipos := e.ipos + BitVec.ofNat 7 n }
  | .none => e

/-- Selecting an external stream: `SRC`, `SRCLEN`, `RCVD <- 0`, `RA <- empty` (R236, R239, R257). -/
def Engine.startStream (e : Engine) (src : Src) (len : BitVec 64) : Engine :=
  { e with src := src, srcLen := len, rcvd := 0, ra := [] }

/-- `BusRead(off)`: the value a read of the window returns (R60, R64, R263 to R267). -/
def Engine.busRead (e : Engine) (off : BitVec 9) : BitVec 32 :=
  match off.toNat with
  | 0x004 => e.statusWord
  | 0x008 => e.errWord
  | 0x00C => BitVec.ofNat 32 e.want
  | 0x010 => lowHalf e.msgLen
  | 0x014 => highHalf e.msgLen
  | 0x018 => lowHalf e.keyLen
  | 0x01C => highHalf e.keyLen
  | 0x028 => e.rlen.setWidth 32
  | 0x02C => e.dlen.setWidth 32
  | 0x030 => e.olen.setWidth 32
  | _ => if 0x100 ≤ off.toNat then obufWord e.obuf ((off.toNat - 0x100) / 4) else 0

/-- A step of the host that reads an offset. -/
def State.read (s : State) (off : BitVec 9) : Outcome := s.answer (.bus (s.eng.busRead off))

end Sys2Proof.Machine
end

