-- ==== Sys2Proof/Machine/BlockAssembler.lean ====
section
/-! DEFINITION. BlockAssembler (42_block_assembler.md): the five block operations, the choice among them, padding and the length
field. -/

namespace Sys2Proof.Machine

/-- The five block operations (R171). -/
inductive BlockOp where
  | inject
  | full
  | final
  | padOnly
  | lenOnly
  deriving DecidableEq, Repr

/-! ## Choice and waiting -/

/-- `n = max(remaining, 0)`, the source bytes a block of the final region takes (R175). -/
def Engine.tailBytes (e : Engine) : Nat := e.remaining.toNat

/-- The length field fits: `B - (remaining + 1) >= LF` (R171, R175). -/
def Engine.lengthFits (e : Engine) : Bool :=
  decide ((e.lenField : Int) ≤ (e.blockSize : Int) - (e.remaining + 1))

/-- The block operation `BA.NEXT` selects (R171). -/
def Engine.selectBlockOp (e : Engine) : BlockOp :=
  if e.injv then .inject
  else if (e.blockSize : Int) ≤ e.remaining then .full
  else if e.remaining < 0 then .lenOnly
  else if e.lengthFits then .final
  else .padOnly

/-- `need = min(max(remaining, 0), B)` (R171). -/
def Engine.need (e : Engine) : Nat := min e.remaining.toNat e.blockSize

/-- The source can hand over what the next block takes (R171, R174). -/
def Engine.sourceReady (e : Engine) : Bool := decide (e.need ≤ e.srcAvail)

/-! ## The block operations -/

/-- The last 8 bytes of the terminal block: `(TOTAL * 8) mod 2^64`, big-endian (R178). -/
def Engine.lengthField (e : Engine) : List Byte := beBytes 8 ((e.total.toNat * 8) % 2 ^ 64)

/-- A block written to `BLK`, `CONSUMED` advanced by `B` (R182), `TERM` set. -/
def Engine.emitBlock (e : Engine) (block : List Byte) (terminal : Bool) : Engine :=
  { e with
    blk := overwrite e.blk block
    consumed := e.consumed + BitVec.ofNat 66 e.blockSize
    term := terminal }

/-- `BA.INJECT` (R173). -/
def Engine.inject (e : Engine) : Engine :=
  { e.emitBlock (slice e.iblk 0 e.blockSize) false with
    injv := false
    total := e.total + BitVec.ofNat 65 e.blockSize }

/-- `BA.FULL` (R176). -/
def Engine.fullBlock (e : Engine) : Engine :=
  (e.srcTaken e.blockSize).emitBlock (e.srcBytes e.blockSize) false

/-- The bytes of the block of `BA.FINAL`: `n` source bytes, 0x80, zeros, the length field (R177). -/
def Engine.finalBytes (e : Engine) : List Byte :=
  e.srcBytes e.tailBytes ++ [0x80#8] ++ List.replicate (e.blockSize - 9 - e.tailBytes) 0#8 ++ e.lengthField

/-- `BA.FINAL` (R177). -/
def Engine.finalBlock (e : Engine) : Engine := (e.srcTaken e.tailBytes).emitBlock e.finalBytes true

/-- The bytes of the block of `BA.PADONLY`: `n` source bytes, 0x80, zeros (R179). -/
def Engine.padBytes (e : Engine) : List Byte :=
  e.srcBytes e.tailBytes ++ [0x80#8] ++ List.replicate (e.blockSize - 1 - e.tailBytes) 0#8

/-- `BA.PADONLY` (R179). -/
def Engine.padOnlyBlock (e : Engine) : Engine := (e.srcTaken e.tailBytes).emitBlock e.padBytes false

/-- The bytes of the block of `BA.LENONLY`: zeros, the length field, no 0x80 (R180, C4). -/
def Engine.lenOnlyBytes (e : Engine) : List Byte := List.replicate (e.blockSize - 8) 0#8 ++ e.lengthField

/-- `BA.LENONLY` (R180). -/
def Engine.lenOnlyBlock (e : Engine) : Engine := e.emitBlock e.lenOnlyBytes true

/-- The block operation named. -/
def Engine.blockStep (e : Engine) : BlockOp → Engine
  | .inject => e.inject
  | .full => e.fullBlock
  | .final => e.finalBlock
  | .padOnly => e.padOnlyBlock
  | .lenOnly => e.lenOnlyBlock

/-- The condition of a block operation: it is the one R171 selects, and its bytes are there (R173 to R180). -/
def Engine.blockOpEnabled (e : Engine) (op : BlockOp) : Bool :=
  decide (e.selectBlockOp = op) && (decide (op = .inject) || e.sourceReady)

/-! ## `BA.NEXT` -/

/-- `BA.NEXT` is enabled: `PHASE = P_ASSEMBLE` in a digest run, and the selected operation need not wait (R171, R262). -/
def Engine.nextEnabled (e : Engine) : Bool := e.atPhase .assemble && (e.injv || e.sourceReady)

/-- `BA.NEXT`: the selected block operation, then `PHASE <- P_COMPRESS` (R171). -/
def Engine.nextBlock (e : Engine) : Engine := { e.blockStep e.selectBlockOp with phase := .compress }

/-! ## The meanings -/

/-- `BA.NEXT` (R171). -/
def execBaNext (s : State) : Outcome := s.actIf s.eng.nextEnabled s.eng.nextBlock

/-- `BA.INJECT` (R173). -/
def execBaInject (s : State) : Outcome := s.actIf (s.eng.blockOpEnabled .inject) s.eng.inject

/-- `BA.FULL` (R176). -/
def execBaFull (s : State) : Outcome := s.actIf (s.eng.blockOpEnabled .full) s.eng.fullBlock

/-- `BA.FINAL` (R177). -/
def execBaFinal (s : State) : Outcome := s.actIf (s.eng.blockOpEnabled .final) s.eng.finalBlock

/-- `BA.PADONLY` (R179). -/
def execBaPadonly (s : State) : Outcome := s.actIf (s.eng.blockOpEnabled .padOnly) s.eng.padOnlyBlock

/-- `BA.LENONLY` (R180). -/
def execBaLenonly (s : State) : Outcome := s.actIf (s.eng.blockOpEnabled .lenOnly) s.eng.lenOnlyBlock

/-- `BA.NORM`: the view `M[0..15]` of the block; no state is written (R181). -/
def execBaNorm (s : State) : Outcome := s.answer (.words (messageWords s.eng.width s.eng.blk))

/-- `BA.REFILL`: a name for the moment the engine waits, not a step that changes anything (R183). -/
def execBaRefill (s : State) : Outcome := s.idle

end Sys2Proof.Machine
end

