-- ==== Sys2Proof/Machine/VariantTable.lean ====
section
/-! DEFINITION. VariantTable (41_variant_table.md): looking up a variant and a round constant as operations. -/

namespace Sys2Proof.Machine

/-- `VLOOKUP(name, w64)`: the row of the variant, or `UnknownVariant` (R150; log 13). -/
def execVlookup (name : BitVec 3) (w64 : Bool) (s : State) : Outcome :=
  match lookupVariant name w64 with
  | some v => s.answer (.params (paramsOf v))
  | none => s.raise .unknownVariant

/-- `KCONST(t)` as a 64-bit register holds it: R163 for `t < NR`, a free value for the others (log 6). -/
def kconst (wd : Width) (t : BitVec 7) : Word :=
  if t.toNat < roundCount wd then roundConstant wd t.toNat else Config.kconstUndefined wd t

/-- The result of `KCONST(t)` is a word of `W` bits (R163). -/
def kconstOutput (wd : Width) (t : BitVec 7) : Output :=
  match wd with
  | .w32 => .word32 ((kconst .w32 t).setWidth 32)
  | .w64 => .word64 (kconst .w64 t)

/-- `KCONST(t)` (R163). -/
def execKconst (t : BitVec 7) (s : State) : Outcome := s.answer (kconstOutput s.eng.width t)

end Sys2Proof.Machine
end

