-- ==== Sys2Proof/Machine/WordOps.lean ====
section
/-! DEFINITION. WordOps (40_wordops.md): the word functions, and the meaning of each as an operation. They read no state and
write none; as operations they return their result (log 2). -/

namespace Sys2Proof.Machine

/-! ## The functions -/

/-- `ROTR(x, n) = ((x >> n) | (x << (W - n))) mod 2^W`, for `0 < n < W` (R121). -/
def rotrBy {w : Nat} (x : BitVec w) (n : Nat) : BitVec w := (x >>> n) ||| (x <<< (w - n))

/-- `SHR(x, n) = floor(x / 2^n)` (R122). -/
def shrBy {w : Nat} (x : BitVec w) (n : Nat) : BitVec w := x >>> n

/-- `ROTR.32`: R121 for the amounts it defines, a free value for the others (log 5). -/
def rotr32 (x : BitVec 32) (n : BitVec 8) : BitVec 32 :=
  if 0 < n.toNat ∧ n.toNat < 32 then rotrBy x n.toNat else Config.rotrUndefined32 x n

/-- `ROTR.64`: R121 for the amounts it defines, a free value for the others (log 5). -/
def rotr64 (x : BitVec 64) (n : BitVec 8) : BitVec 64 :=
  if 0 < n.toNat ∧ n.toNat < 64 then rotrBy x n.toNat else Config.rotrUndefined64 x n

/-- `SHR.32`: R122 for amounts below 32, a free value for the others (log 5). -/
def shr32 (x : BitVec 32) (n : BitVec 8) : BitVec 32 :=
  if n.toNat < 32 then shrBy x n.toNat else Config.shrUndefined32 x n

/-- `SHR.64`: R122 for amounts below 64, a free value for the others (log 5). -/
def shr64 (x : BitVec 64) (n : BitVec 8) : BitVec 64 :=
  if n.toNat < 64 then shrBy x n.toNat else Config.shrUndefined64 x n

/-- `ADD(x, y) = (x + y) mod 2^W` (R123). -/
def addWords {w : Nat} (x y : BitVec w) : BitVec w := x + y

/-- `CH(x, y, z) = (x & y) ^ (~x & z)` (R132). -/
def chWords {w : Nat} (x y z : BitVec w) : BitVec w := (x &&& y) ^^^ (~~~x &&& z)

/-- `MAJ(x, y, z) = (x & y) ^ (x & z) ^ (y & z)` (R133). -/
def majWords {w : Nat} (x y z : BitVec w) : BitVec w := (x &&& y) ^^^ (x &&& z) ^^^ (y &&& z)

/-- `BSWAP(x) = le(be_bytes_WB(x))` (R134). -/
def bswap32 (x : BitVec 32) : BitVec 32 := BitVec.ofNat 32 (leNat (beBytes 4 x.toNat))

/-- `BSWAP(x) = le(be_bytes_WB(x))` (R134). -/
def bswap64 (x : BitVec 64) : BitVec 64 := BitVec.ofNat 64 (leNat (beBytes 8 x.toNat))

/-- `BSIG0.32(x) = ROTR(x, 2) ^ ROTR(x, 13) ^ ROTR(x, 22)` (R124). -/
def bsig0x32 (x : BitVec 32) : BitVec 32 := rotrBy x 2 ^^^ rotrBy x 13 ^^^ rotrBy x 22

/-- `BSIG0.64(x) = ROTR(x, 28) ^ ROTR(x, 34) ^ ROTR(x, 39)` (R125). -/
def bsig0x64 (x : BitVec 64) : BitVec 64 := rotrBy x 28 ^^^ rotrBy x 34 ^^^ rotrBy x 39

/-- `BSIG1.32(x) = ROTR(x, 6) ^ ROTR(x, 11) ^ ROTR(x, 25)` (R126). -/
def bsig1x32 (x : BitVec 32) : BitVec 32 := rotrBy x 6 ^^^ rotrBy x 11 ^^^ rotrBy x 25

/-- `BSIG1.64(x) = ROTR(x, 14) ^ ROTR(x, 18) ^ ROTR(x, 41)` (R127). -/
def bsig1x64 (x : BitVec 64) : BitVec 64 := rotrBy x 14 ^^^ rotrBy x 18 ^^^ rotrBy x 41

/-- `SSIG0.32(x) = ROTR(x, 7) ^ ROTR(x, 18) ^ SHR(x, 3)` (R128). -/
def ssig0x32 (x : BitVec 32) : BitVec 32 := rotrBy x 7 ^^^ rotrBy x 18 ^^^ shrBy x 3

/-- `SSIG0.64(x) = ROTR(x, 1) ^ ROTR(x, 8) ^ SHR(x, 7)` (R129). -/
def ssig0x64 (x : BitVec 64) : BitVec 64 := rotrBy x 1 ^^^ rotrBy x 8 ^^^ shrBy x 7

/-- `SSIG1.32(x) = ROTR(x, 17) ^ ROTR(x, 19) ^ SHR(x, 10)` (R130). -/
def ssig1x32 (x : BitVec 32) : BitVec 32 := rotrBy x 17 ^^^ rotrBy x 19 ^^^ shrBy x 10

/-- `SSIG1.64(x) = ROTR(x, 19) ^ ROTR(x, 61) ^ SHR(x, 6)` (R131). -/
def ssig1x64 (x : BitVec 64) : BitVec 64 := rotrBy x 19 ^^^ rotrBy x 61 ^^^ shrBy x 6

/-! ## At the width of the running variant (R208) -/

/-- Σ0 at a width. -/
def bsig0 (wd : Width) : Word → Word := atWidth1 wd bsig0x32 bsig0x64

/-- Σ1 at a width. -/
def bsig1 (wd : Width) : Word → Word := atWidth1 wd bsig1x32 bsig1x64

/-- σ0 at a width. -/
def ssig0 (wd : Width) : Word → Word := atWidth1 wd ssig0x32 ssig0x64

/-- σ1 at a width. -/
def ssig1 (wd : Width) : Word → Word := atWidth1 wd ssig1x32 ssig1x64

/-- `+w` at a width (R15, R123). -/
def addw (wd : Width) : Word → Word → Word := atWidth2 wd addWords addWords

/-- Ch at a width. -/
def ch (wd : Width) : Word → Word → Word → Word := atWidth3 wd chWords chWords

/-- Maj at a width. -/
def maj (wd : Width) : Word → Word → Word → Word := atWidth3 wd majWords majWords

/-! ## The meanings -/

/-- `ROTR.32` (R121). -/
def execRotr32 (x : BitVec 32) (n : BitVec 8) (s : State) : Outcome := s.answer (.word32 (rotr32 x n))

/-- `ROTR.64` (R121). -/
def execRotr64 (x : BitVec 64) (n : BitVec 8) (s : State) : Outcome := s.answer (.word64 (rotr64 x n))

/-- `SHR.32` (R122). -/
def execShr32 (x : BitVec 32) (n : BitVec 8) (s : State) : Outcome := s.answer (.word32 (shr32 x n))

/-- `SHR.64` (R122). -/
def execShr64 (x : BitVec 64) (n : BitVec 8) (s : State) : Outcome := s.answer (.word64 (shr64 x n))

/-- `ADD.32` (R123). -/
def execAdd32 (x y : BitVec 32) (s : State) : Outcome := s.answer (.word32 (addWords x y))

/-- `ADD.64` (R123). -/
def execAdd64 (x y : BitVec 64) (s : State) : Outcome := s.answer (.word64 (addWords x y))

/-- `BSIG0.32` (R124). -/
def execBsig0x32 (x : BitVec 32) (s : State) : Outcome := s.answer (.word32 (bsig0x32 x))

/-- `BSIG0.64` (R125). -/
def execBsig0x64 (x : BitVec 64) (s : State) : Outcome := s.answer (.word64 (bsig0x64 x))

/-- `BSIG1.32` (R126). -/
def execBsig1x32 (x : BitVec 32) (s : State) : Outcome := s.answer (.word32 (bsig1x32 x))

/-- `BSIG1.64` (R127). -/
def execBsig1x64 (x : BitVec 64) (s : State) : Outcome := s.answer (.word64 (bsig1x64 x))

/-- `SSIG0.32` (R128). -/
def execSsig0x32 (x : BitVec 32) (s : State) : Outcome := s.answer (.word32 (ssig0x32 x))

/-- `SSIG0.64` (R129). -/
def execSsig0x64 (x : BitVec 64) (s : State) : Outcome := s.answer (.word64 (ssig0x64 x))

/-- `SSIG1.32` (R130). -/
def execSsig1x32 (x : BitVec 32) (s : State) : Outcome := s.answer (.word32 (ssig1x32 x))

/-- `SSIG1.64` (R131). -/
def execSsig1x64 (x : BitVec 64) (s : State) : Outcome := s.answer (.word64 (ssig1x64 x))

/-- `CH.32` (R132). -/
def execCh32 (x y z : BitVec 32) (s : State) : Outcome := s.answer (.word32 (chWords x y z))

/-- `CH.64` (R132). -/
def execCh64 (x y z : BitVec 64) (s : State) : Outcome := s.answer (.word64 (chWords x y z))

/-- `MAJ.32` (R133). -/
def execMaj32 (x y z : BitVec 32) (s : State) : Outcome := s.answer (.word32 (majWords x y z))

/-- `MAJ.64` (R133). -/
def execMaj64 (x y z : BitVec 64) (s : State) : Outcome := s.answer (.word64 (majWords x y z))

/-- `BSWAP.32` (R134). -/
def execBswap32 (x : BitVec 32) (s : State) : Outcome := s.answer (.word32 (bswap32 x))

/-- `BSWAP.64` (R134). -/
def execBswap64 (x : BitVec 64) (s : State) : Outcome := s.answer (.word64 (bswap64 x))

end Sys2Proof.Machine
end

