-- ==== Sys2Proof/Machine/CompressionEngine.lean ====
section
/-! DEFINITION. CompressionEngine (43_compression_engine.md): one engine for both widths (R208). -/

namespace Sys2Proof.Machine

/-- `CE.LOADW`: `w[0..15] <- M[0..15]` (R201). -/
def Engine.loadWords (e : Engine) : Engine :=
  { e with w := Vector.ofFn fun i : Fin 80 => if i.val < 16 then messageWord e.width e.blk i.val else e.w[i] }

/-- Entry `i` of the schedule, for the indices the rules use. -/
def scheduleWord (w : Vector Word 80) (i : Nat) : Word := (w[i]?).getD 0

/-- `w[i] <- w[i-16] + σ0(w[i-15]) + w[i-7] + σ1(w[i-2])` (R202). -/
def scheduleEntry (wd : Width) (w : Vector Word 80) (i : Nat) : Vector Word 80 :=
  w.setIfInBounds i
    (addw wd (addw wd (addw wd (scheduleWord w (i - 16)) (ssig0 wd (scheduleWord w (i - 15)))) (scheduleWord w (i - 7)))
      (ssig1 wd (scheduleWord w (i - 2))))

/-- The schedule with the entries of a list of indices computed, in the list's order. -/
def expandSchedule (wd : Width) (w : Vector Word 80) (is : List Nat) : Vector Word 80 := is.foldl (scheduleEntry wd) w

/-- `CE.SCHED`: the entries 16 to `NR - 1` in increasing order (R202). `T` is left alone, as R202 has it
where R24 names `CE.SCHED` as a writer of `T` (log 28). -/
def Engine.schedule (e : Engine) : Engine :=
  { e with w := expandSchedule e.width e.w (List.range' 16 (e.rounds - 16)) }

/-- `CE.INITV`: the working variables start as a copy of `H`, and `T <- 0` (R203, where R24 names `CE.SCHED` and `CE.ROUND` as the
only writers of `T`; log 28). -/
def Engine.initVars (e : Engine) : Engine :=
  { e with
    vars := ⟨e.h[0], e.h[1], e.h[2], e.h[3], e.h[4], e.h[5], e.h[6], e.h[7]⟩
    t := 0 }

/-- The eight variables after a round with constant `k` and schedule word `wt` (R204). -/
def roundVars (wd : Width) (v : Vars) (k wt : Word) : Vars :=
  let t1 := addw wd (addw wd (addw wd (addw wd v.h (bsig1 wd v.e)) (ch wd v.e v.f v.g)) k) wt
  let t2 := addw wd (bsig0 wd v.a) (maj wd v.a v.b v.c)
  ⟨addw wd t1 t2, v.a, v.b, v.c, addw wd v.d t1, v.e, v.f, v.g⟩

/-- A round is left to perform: `T < NR` (R204; log 11). -/
def Engine.roundEnabled (e : Engine) : Bool := decide (e.t.toNat < e.rounds)

/-- `CE.ROUND`: one round, and `T <- T + 1` (R204). -/
def Engine.round (e : Engine) : Engine :=
  { e with
    vars := roundVars e.width e.vars (kconst e.width e.t) (scheduleWord e.w e.t.toNat)
    t := e.t + 1 }

/-- `CE.ROUND` a number of times. -/
def Engine.roundTimes : Nat → Engine → Engine
  | 0, e => e
  | n + 1, e => Engine.roundTimes n e.round

/-- `CE.FOLD`: the working variables added back into the state words (R205). -/
def Engine.fold (e : Engine) : Engine :=
  { e with
    h := #v[addw e.width e.h[0] e.vars.a, addw e.width e.h[1] e.vars.b, addw e.width e.h[2] e.vars.c,
            addw e.width e.h[3] e.vars.d, addw e.width e.h[4] e.vars.e, addw e.width e.h[5] e.vars.f,
            addw e.width e.h[6] e.vars.g, addw e.width e.h[7] e.vars.h] }

/-- The five parts of `CE.BLOCK` in execution order (R200, R206). -/
def Engine.compress (e : Engine) : Engine :=
  (Engine.roundTimes e.rounds e.loadWords.schedule.initVars).fold

/-- `CE.BLOCK` is enabled: `PHASE = P_COMPRESS` in a digest run (R206, R262). -/
def Engine.blockEnabled (e : Engine) : Bool := e.atPhase .compress

/-- `CE.BLOCK`: the compression, then the phase that `TERM` selects (R206). -/
def Engine.compressBlock (e : Engine) : Engine :=
  { e.compress with phase := if e.term then .format else .assemble }

/-! ## The meanings -/

/-- `CE.LOADW` (R201). -/
def execCeLoadw (s : State) : Outcome := s.act s.eng.loadWords

/-- `CE.SCHED` (R202). -/
def execCeSched (s : State) : Outcome := s.act s.eng.schedule

/-- `CE.INITV` (R203). -/
def execCeInitv (s : State) : Outcome := s.act s.eng.initVars

/-- `CE.ROUND` (R204). -/
def execCeRound (s : State) : Outcome := s.actIf s.eng.roundEnabled s.eng.round

/-- `CE.FOLD` (R205). -/
def execCeFold (s : State) : Outcome := s.act s.eng.fold

/-- `CE.BLOCK` (R206). -/
def execCeBlock (s : State) : Outcome := s.actIf s.eng.blockEnabled s.eng.compressBlock

end Sys2Proof.Machine
end

