-- ==== Sys2Proof/Machine/DigestFormatter.lean ====
section
/-! DEFINITION. DigestFormatter (44_digest_formatter.md): truncation, raw bytes, text, and where the digest goes. -/

namespace Sys2Proof.Machine

/-- `NW` of the running variant (R152). -/
def Engine.digestWordCount (e : Engine) : Nat := digestWords e.name

/-- `DLEN` of the running variant, not the register (R152). -/
def Engine.digestLength (e : Engine) : Nat := digestBytes e.name

/-- `full`: the first `NW` state words, each as `WB` bytes, most significant first (R221). -/
def Engine.stateBytes (e : Engine) : List Byte :=
  (e.h.toList.take e.digestWordCount).flatMap fun x => beBytes e.width.bytes x.toNat

/-- `DF.RAW`: `DBUF` holds the first `DLEN` bytes of `full`, then zeros (R221, R222). -/
def Engine.formatRaw (e : Engine) : Engine := { e with dbuf := zeroFilled 64 (e.stateBytes.take e.digestLength) }

/-- `DBUF[0..DLEN-1]`. -/
def Engine.rawDigest (e : Engine) : List Byte := slice e.dbuf 0 e.digestLength

/-- `TXT[0..2*DLEN]`: two lowercase digits a byte, then a zero byte (R224). -/
def Engine.textDigest (e : Engine) : List Byte := e.rawDigest.flatMap hexPair ++ [0#8]

/-- What goes to `OBUF`, by `TEXT` (R226). -/
def Engine.outputBytes (e : Engine) : List Byte := if e.text then e.textDigest else e.rawDigest

/-- `DF.ROUTE` to `OBUF`: the result and its lengths (R226). -/
def Engine.routeOutput (e : Engine) : Engine :=
  { e with
    obuf := zeroFilled 256 e.outputBytes
    olen := BitVec.ofNat 8 (if e.text then 2 * e.digestLength + 1 else e.digestLength)
    rlen := BitVec.ofNat 4 e.digestWordCount
    dlen := BitVec.ofNat 7 e.digestLength }

/-- `DF.ROUTE`: where the raw digest goes, by `STAGE`; the stages R226 does not list have no digest to route (log 12). -/
def Engine.route (e : Engine) : Engine :=
  match e.stage with
  | .derivekey => { e with keyblk := zeroFilled 128 e.rawDigest }
  | .inner => { e with innerd := e.dbuf }
  | .outer | .plain => e.routeOutput
  | .idle | .buildpads | .done | .error => e

/-! ## The meanings -/

/-- `DF.RAW` (R221). -/
def execDfRaw (s : State) : Outcome := s.act s.eng.formatRaw

/-- `DF.TEXT`: the text of `DBUF`, which is no state of its own (R224; log 2). -/
def execDfText (s : State) : Outcome := s.answer (.bytes s.eng.textDigest)

/-- `DF.ROUTE` (R226). -/
def execDfRoute (s : State) : Outcome := s.act s.eng.route

end Sys2Proof.Machine
end

