-- ==== Sys2Proof/Machine/HmacComposer.lean ====
section
/-! DEFINITION. HmacComposer (45_hmac_composer.md): key derivation, the two pads and the hand-overs between digest runs. The inner
run as a whole, `HM.INNER`, is in Machine/Sequencer.lean beside the loop it is made of. -/

namespace Sys2Proof.Machine

/-- `HM.DERIVEKEY`: start of key derivation (R236). A key longer than one block is hashed, any other is copied. -/
def Engine.deriveKey (e : Engine) : Engine :=
  { e.startStream .key e.klen with
    stage := .derivekey
    injv := false
    phase := if e.blockSize < e.klen.toNat then .init else .keycopy }

/-- `HM.DERIVEKEY` starts from `IDLE`, `DONE` or `ERROR` (R235; log 10). -/
def Engine.deriveKeyEnabled (e : Engine) : Bool := !e.busy

/-- `HM.KEYCOPY` is enabled: its stage and phase, and the whole key is there (R237, R262). -/
def Engine.keyCopyEnabled (e : Engine) : Bool :=
  decide (e.stage = .derivekey) && decide (e.phase = .keycopy) && decide (e.klen.toNat ≤ e.srcAvail)

/-- `HM.KEYCOPY`: a short key as it is, zero-padded (R237); no byte goes past the end of `KEYBLK` (log 29). -/
def Engine.keyCopy (e : Engine) : Engine :=
  { e.srcTaken e.klen.toNat with
    keyblk := zeroFilled 128 (e.srcBytes e.klen.toNat)
    stage := .buildpads
    phase := .init }

/-- `HM.KEYHASH`: the raw digest of a long key, zero-padded (R238). -/
def Engine.keyHash (e : Engine) : Engine :=
  { e with
    keyblk := zeroFilled 128 e.rawDigest
    stage := .buildpads
    phase := .init }

/-- `HM.KEYHASH` ends the key digest run: `STAGE = DERIVEKEY`, `PHASE = P_FORMAT` (R238). -/
def Engine.keyHashEnabled (e : Engine) : Bool := decide (e.stage = .derivekey) && decide (e.phase = .format)

/-- A key block exclusive-ored with a repeated byte over one block, zeros after it (R239). -/
def padBlock (keyblk : Vector Byte 128) (blockSize : Nat) (pad : Byte) : Vector Byte 128 :=
  Vector.ofFn fun i : Fin 128 => if i.val < blockSize then keyblk[i] ^^^ pad else 0

/-- `HM.BUILDPADS`: the two padded keys, and the start of the inner run (R239). -/
def Engine.buildPads (e : Engine) : Engine :=
  { e.startStream .msg e.mlen with
    ikb := padBlock e.keyblk e.blockSize 0x36#8
    okb := padBlock e.keyblk e.blockSize 0x5c#8
    iblk := overwrite e.iblk (slice (padBlock e.keyblk e.blockSize 0x36#8) 0 e.blockSize)
    injv := true
    stage := .inner
    phase := .init }

/-- `HM.BUILDPADS` is enabled: `STAGE = BUILDPADS`, at `P_INIT` as R262 lists it (R239). -/
def Engine.buildPadsEnabled (e : Engine) : Bool := decide (e.stage = .buildpads) && decide (e.phase = .init)

/-- `HM.OUTER`: hand-over from the inner to the outer run (R241). -/
def Engine.startOuter (e : Engine) : Engine :=
  { e with
    innerd := e.dbuf
    stage := .outer
    src := .innerd
    srcLen := BitVec.ofNat 64 e.digestLength
    ipos := 0
    iblk := overwrite e.iblk (slice e.okb 0 e.blockSize)
    injv := true
    phase := .init }

/-- `HM.OUTER` ends the inner run: `STAGE = INNER`, `PHASE = P_FORMAT` (R241). -/
def Engine.startOuterEnabled (e : Engine) : Bool := decide (e.stage = .inner) && decide (e.phase = .format)

/-- `HM.DONE`: `DF.ROUTE`'s third case, then `STAGE <- DONE` (R242). -/
def Engine.finishHmac (e : Engine) : Engine := { e.routeOutput with stage := .done }

/-- `HM.DONE` ends the outer run: stage `OUTER`, at `P_FORMAT` (R235, R242). -/
def Engine.finishHmacEnabled (e : Engine) : Bool := decide (e.stage = .outer) && decide (e.phase = .format)

/-! ## The meanings -/

/-- `HM.DERIVEKEY` (R236). -/
def execHmDerivekey (s : State) : Outcome := s.actIf s.eng.deriveKeyEnabled s.eng.deriveKey

/-- `HM.KEYCOPY` (R237). -/
def execHmKeycopy (s : State) : Outcome := s.actIf s.eng.keyCopyEnabled s.eng.keyCopy

/-- `HM.KEYHASH` (R238). -/
def execHmKeyhash (s : State) : Outcome := s.actIf s.eng.keyHashEnabled s.eng.keyHash

/-- `HM.BUILDPADS` (R239). -/
def execHmBuildpads (s : State) : Outcome := s.actIf s.eng.buildPadsEnabled s.eng.buildPads

/-- `HM.OUTER` (R241). -/
def execHmOuter (s : State) : Outcome := s.actIf s.eng.startOuterEnabled s.eng.startOuter

/-- `HM.DONE` (R242). -/
def execHmDone (s : State) : Outcome := s.actIf s.eng.finishHmacEnabled s.eng.finishHmac

end Sys2Proof.Machine
end

