-- ==== Sys2Proof/Machine/Sequencer.lean ====
section
/-! DEFINITION. The digest run (46_sequencer_and_commands.md R259 to R261), the two names for runs of steps (`DR.LOOP`, R260;
`HM.INNER`, R240), error entry and reset as operations, and the sequencer's transition table (R262). -/

namespace Sys2Proof.Machine

/-- `DR.INIT` is enabled: `PHASE = P_INIT` in a digest run (R259, R262). -/
def Engine.runInitEnabled (e : Engine) : Bool := e.atPhase .init

/-- `DR.INIT`: `H` from the initial vector, the counters and `TERM` (R259). -/
def Engine.runInit (e : Engine) : Engine :=
  { e with
    h := iv e.name
    total := e.srcLen.setWidth 65
    consumed := 0
    term := false
    phase := .assemble }

/-- `DR.END` is enabled: `PHASE = P_FORMAT` in a digest run (R261, R262). -/
def Engine.runEndEnabled (e : Engine) : Bool := e.atPhase .format

/-- `DR.END` after `DF.RAW` and `DF.ROUTE`: the hand-over by `STAGE` (R261). -/
def Engine.handOver (e : Engine) : Engine :=
  match e.stage with
  | .derivekey => e.keyHash
  | .inner => e.startOuter
  | .outer => e.finishHmac
  | .plain => { e with stage := .done }
  | .idle | .buildpads | .done | .error => e

/-- `DR.END`: `DF.RAW`, `DF.ROUTE`, the hand-over (R261). -/
def Engine.runEnd (e : Engine) : Engine := e.formatRaw.route.handOver

/-- One turn of the block loop: `BA.NEXT` or `CE.BLOCK`, whichever is enabled (R260). -/
def Engine.loopTurn (e : Engine) : Option Engine :=
  if e.nextEnabled then some e.nextBlock
  else if e.blockEnabled then some e.compressBlock
  else none

/-- Turns of the block loop, at most a number of them, until none is enabled. -/
def Engine.loopTurns : Nat → Engine → Engine
  | 0, e => e
  | n + 1, e =>
    match e.loopTurn with
    | none => e
    | some e' => Engine.loopTurns n e'

/-- More turns than the bytes at hand allow: two for each full block, and two for each of the injected block, the two of an
ending and one more (R184; log 17). -/
def Engine.loopBound (e : Engine) : Nat := 2 * (e.srcAvail / 64) + 8

/-- `DR.LOOP`: the block loop, until the terminal block is folded or the next block waits for bytes (R260; log 17). -/
def Engine.blockLoop (e : Engine) : Engine := Engine.loopTurns e.loopBound e

/-- `HM.INNER`: the inner digest run but its last step, `DR.INIT` and the block loop (R235, R240; log 17). -/
def Engine.innerRun (e : Engine) : Engine := if e.runInitEnabled then e.runInit.blockLoop else e.blockLoop

/-- `HM.INNER` is in stage `INNER` (R235, R240). -/
def Engine.innerRunEnabled (e : Engine) : Bool := decide (e.stage = .inner)

/-- The candidate engine step of a state, none where R262's table has none. -/
def Engine.candidate (e : Engine) : Option Instr :=
  match e.stage, e.phase with
  | .derivekey, .keycopy => some .hmKeycopy
  | .buildpads, .init => some .hmBuildpads
  | .derivekey, .init | .inner, .init | .outer, .init | .plain, .init => some .drInit
  | .derivekey, .assemble | .inner, .assemble | .outer, .assemble | .plain, .assemble => some .baNext
  | .derivekey, .compress | .inner, .compress | .outer, .compress | .plain, .compress => some .ceBlock
  | .derivekey, .format | .inner, .format | .outer, .format | .plain, .format => some .drEnd
  | _, _ => none

/-! ## The meanings -/

/-- `DR.INIT` (R259). -/
def execDrInit (s : State) : Outcome := s.actIf s.eng.runInitEnabled s.eng.runInit

/-- `DR.LOOP` (R260). -/
def execDrLoop (s : State) : Outcome := s.act s.eng.blockLoop

/-- `DR.END` (R261). -/
def execDrEnd (s : State) : Outcome := s.actIf s.eng.runEndEnabled s.eng.runEnd

/-- `HM.INNER` (R240). -/
def execHmInner (s : State) : Outcome := s.actIf s.eng.innerRunEnabled s.eng.innerRun

/-- `ERR.ENTER(kind)` (R300). -/
def execErrEnter (kind : ErrorKind) (s : State) : Outcome := s.raise kind

/-- `RESET`: every register, `MSGLEN` and `KEYLEN` included, at its reset value (R320). -/
def execReset (s : State) : Outcome := s.act Engine.reset

end Sys2Proof.Machine
end

