-- ==== Sys2Proof/Machine/Commands.lean ====
section
/-! DEFINITION. The command register and the two host commands (46_sequencer_and_commands.md R256 to R258). -/

namespace Sys2Proof.Machine

/-- Step 4 of R256: latching the command's fields and the two lengths. -/
def Engine.latch (e : Engine) (oph text : Bool) (v : Variant) (w64 : Bool) : Engine :=
  { e with
    oph := oph
    text := text
    name := v
    w64 := w64
    mlen := e.msgLen
    klen := e.keyLen }

/-- `DIGEST`, inside the `WR.CMD` step (R257). -/
def Engine.startDigest (e : Engine) : Engine :=
  { e.startStream .msg e.mlen with
    stage := .plain
    injv := false
    phase := .init }

/-- `HMAC`, inside the `WR.CMD` step: `HM.DERIVEKEY` (R258). -/
def Engine.startHmac (e : Engine) : Engine := e.deriveKey

/-- Steps 3 to 5 of R256 for a command without reserved bits, on an engine that step 1 has cleared. -/
def Engine.startCommand (e : Engine) (isHmac text : Bool) (name : BitVec 3) (w64 : Bool) : Engine :=
  match lookupVariant name w64 with
  | none => e.enterError .unknownVariant
  | some v =>
    if isHmac then (e.latch isHmac text v w64).startHmac else (e.latch isHmac text v w64).startDigest

/-- A command accepted: steps 1 and 2 of R256, then the command the word spells (R92, R95). -/
def Engine.acceptWord (e : Engine) (v : BitVec 32) : Engine :=
  if v &&& reservedCommandMask ≠ 0#32 then e.cleared.enterError .badCommand
  else e.cleared.startCommand (hmacField v) (textField v) (nameField v) (w64Field v)

/-! ## The meanings -/

/-- `WR.CMD`: dropped whole while busy, accepted otherwise (R256, R330). -/
def execWrCmd (v : BitVec 32) (s : State) : Outcome := s.actIf (!s.eng.busy) (s.eng.acceptWord v)

/-- `DIGEST`: the host writes this command word to `CMD` (R256, R257). -/
def execDigest (text : Bool) (name : BitVec 3) (w64 : Bool) (s : State) : Outcome :=
  s.actIf (!s.eng.busy) (s.eng.cleared.startCommand false text name w64)

/-- `HMAC`: the host writes this command word to `CMD` (R256, R258). -/
def execHmac (text : Bool) (name : BitVec 3) (w64 : Bool) (s : State) : Outcome :=
  s.actIf (!s.eng.busy) (s.eng.cleared.startCommand true text name w64)

end Sys2Proof.Machine
end

