-- ==== Sys2Proof/Machine/HostAccess.lean ====
section
/-! DEFINITION. The host's register accesses but `WR.CMD` (46_sequencer_and_commands.md R263 to R267, 20_memory.md R73, R75). -/

namespace Sys2Proof.Machine

/-- `WR.DIN`: the byte appended when there is room, dropped otherwise (R73). -/
def Engine.acceptByte (e : Engine) (b : Byte) : Engine :=
  if 0 < e.want then { e with ra := e.ra ++ [b], rcvd := e.rcvd + 1 } else e

/-- The error a `DINCTL` write raises, none if it has no effect (R75, R298). -/
def Engine.dinctlError (e : Engine) (v : BitVec 32) : Option ErrorKind :=
  if e.req = 0 then none
  else if dinctlOpenfail v then
    if e.req = 1 then some .keySourceError
    else if e.rcvd = 0 then some .sourceOpenError
    else some .sourceReadError
  else if dinctlReadfail v || dinctlEof v then
    if e.req = 1 then some .keySourceError else some .sourceReadError
  else none

/-! ## Reads (R263, R264, R267) -/

/-- `RD.STATUS` (R263). -/
def execRdStatus (s : State) : Outcome := s.read 0x004#9

/-- `RD.ERR` (R263). -/
def execRdErr (s : State) : Outcome := s.read 0x008#9

/-- `RD.WANT` (R263). -/
def execRdWant (s : State) : Outcome := s.read 0x00C#9

/-- `RD.MSGLEN_LO` (R264). -/
def execRdMsglenLo (s : State) : Outcome := s.read 0x010#9

/-- `RD.MSGLEN_HI` (R264). -/
def execRdMsglenHi (s : State) : Outcome := s.read 0x014#9

/-- `RD.KEYLEN_LO` (R264). -/
def execRdKeylenLo (s : State) : Outcome := s.read 0x018#9

/-- `RD.KEYLEN_HI` (R264). -/
def execRdKeylenHi (s : State) : Outcome := s.read 0x01C#9

/-- `RD.RLEN` (R263). -/
def execRdRlen (s : State) : Outcome := s.read 0x028#9

/-- `RD.DLEN` (R263). -/
def execRdDlen (s : State) : Outcome := s.read 0x02C#9

/-- `RD.OLEN` (R263). -/
def execRdOlen (s : State) : Outcome := s.read 0x030#9

/-- `RD.OBUF`, word `i`: a read of offset `0x100 + 4*i` (R267). -/
def execRdObuf (i : BitVec 6) (s : State) : Outcome := s.read (BitVec.ofNat 9 (0x100 + 4 * i.toNat))

/-! ## Writes (R61, R73, R75, R264) -/

/-- `WR.MSGLEN_LO` (R264). -/
def execWrMsglenLo (v : BitVec 32) (s : State) : Outcome := s.act { s.eng with msgLen := setLow s.eng.msgLen v }

/-- `WR.MSGLEN_HI` (R264). -/
def execWrMsglenHi (v : BitVec 32) (s : State) : Outcome := s.act { s.eng with msgLen := setHigh s.eng.msgLen v }

/-- `WR.KEYLEN_LO` (R264). -/
def execWrKeylenLo (v : BitVec 32) (s : State) : Outcome := s.act { s.eng with keyLen := setLow s.eng.keyLen v }

/-- `WR.KEYLEN_HI` (R264). -/
def execWrKeylenHi (v : BitVec 32) (s : State) : Outcome := s.act { s.eng with keyLen := setHigh s.eng.keyLen v }

/-- `WR.DIN` (R73). -/
def execWrDin (v : BitVec 32) (s : State) : Outcome := s.act (s.eng.acceptByte (dinByte v))

/-- `WR.DINCTL` (R75). -/
def execWrDinctl (v : BitVec 32) (s : State) : Outcome :=
  match s.eng.dinctlError v with
  | some k => s.raise k
  | none => s.idle

/-- `BUS.NULL`: a read returns 0, a write is ignored (R265). -/
def execBusNull (a : NullAccess) (s : State) : Outcome :=
  match a with
  | .read _ => s.answer (.bus 0)
  | .write _ _ => s.idle

end Sys2Proof.Machine
end

