-- ==== Sys2Proof/Machine/Dispatch.lean ====
section
/-! DEFINITION. One arm for each operation (spec/opcode_table.json). -/

namespace Sys2Proof.Machine

def exec (i : Instr) (s : State) : Host.Outcome State Fault Refusal :=
  match i with
  | .digest text name w64 => Sys2Proof.Machine.execDigest text name w64 s
  | .hmac text name w64 => Sys2Proof.Machine.execHmac text name w64 s
  | .wrCmd v => Sys2Proof.Machine.execWrCmd v s
  | .rdStatus => Sys2Proof.Machine.execRdStatus s
  | .rdErr => Sys2Proof.Machine.execRdErr s
  | .rdWant => Sys2Proof.Machine.execRdWant s
  | .rdMsglenLo => Sys2Proof.Machine.execRdMsglenLo s
  | .wrMsglenLo v => Sys2Proof.Machine.execWrMsglenLo v s
  | .rdMsglenHi => Sys2Proof.Machine.execRdMsglenHi s
  | .wrMsglenHi v => Sys2Proof.Machine.execWrMsglenHi v s
  | .rdKeylenLo => Sys2Proof.Machine.execRdKeylenLo s
  | .wrKeylenLo v => Sys2Proof.Machine.execWrKeylenLo v s
  | .rdKeylenHi => Sys2Proof.Machine.execRdKeylenHi s
  | .wrKeylenHi v => Sys2Proof.Machine.execWrKeylenHi v s
  | .wrDin v => Sys2Proof.Machine.execWrDin v s
  | .wrDinctl v => Sys2Proof.Machine.execWrDinctl v s
  | .rdRlen => Sys2Proof.Machine.execRdRlen s
  | .rdDlen => Sys2Proof.Machine.execRdDlen s
  | .rdOlen => Sys2Proof.Machine.execRdOlen s
  | .rdObuf k => Sys2Proof.Machine.execRdObuf k s
  | .busNull a => Sys2Proof.Machine.execBusNull a s
  | .rotr32 x n => Sys2Proof.Machine.execRotr32 x n s
  | .rotr64 x n => Sys2Proof.Machine.execRotr64 x n s
  | .shr32 x n => Sys2Proof.Machine.execShr32 x n s
  | .shr64 x n => Sys2Proof.Machine.execShr64 x n s
  | .add32 x y => Sys2Proof.Machine.execAdd32 x y s
  | .add64 x y => Sys2Proof.Machine.execAdd64 x y s
  | .bsig0x32 x => Sys2Proof.Machine.execBsig0x32 x s
  | .bsig0x64 x => Sys2Proof.Machine.execBsig0x64 x s
  | .bsig1x32 x => Sys2Proof.Machine.execBsig1x32 x s
  | .bsig1x64 x => Sys2Proof.Machine.execBsig1x64 x s
  | .ssig0x32 x => Sys2Proof.Machine.execSsig0x32 x s
  | .ssig0x64 x => Sys2Proof.Machine.execSsig0x64 x s
  | .ssig1x32 x => Sys2Proof.Machine.execSsig1x32 x s
  | .ssig1x64 x => Sys2Proof.Machine.execSsig1x64 x s
  | .ch32 x y z => Sys2Proof.Machine.execCh32 x y z s
  | .ch64 x y z => Sys2Proof.Machine.execCh64 x y z s
  | .maj32 x y z => Sys2Proof.Machine.execMaj32 x y z s
  | .maj64 x y z => Sys2Proof.Machine.execMaj64 x y z s
  | .bswap32 x => Sys2Proof.Machine.execBswap32 x s
  | .bswap64 x => Sys2Proof.Machine.execBswap64 x s
  | .vlookup name w64 => Sys2Proof.Machine.execVlookup name w64 s
  | .kconst t => Sys2Proof.Machine.execKconst t s
  | .baNext => Sys2Proof.Machine.execBaNext s
  | .baInject => Sys2Proof.Machine.execBaInject s
  | .baFull => Sys2Proof.Machine.execBaFull s
  | .baFinal => Sys2Proof.Machine.execBaFinal s
  | .baPadonly => Sys2Proof.Machine.execBaPadonly s
  | .baLenonly => Sys2Proof.Machine.execBaLenonly s
  | .baNorm => Sys2Proof.Machine.execBaNorm s
  | .baRefill => Sys2Proof.Machine.execBaRefill s
  | .ceLoadw => Sys2Proof.Machine.execCeLoadw s
  | .ceSched => Sys2Proof.Machine.execCeSched s
  | .ceInitv => Sys2Proof.Machine.execCeInitv s
  | .ceRound => Sys2Proof.Machine.execCeRound s
  | .ceFold => Sys2Proof.Machine.execCeFold s
  | .ceBlock => Sys2Proof.Machine.execCeBlock s
  | .dfRaw => Sys2Proof.Machine.execDfRaw s
  | .dfText => Sys2Proof.Machine.execDfText s
  | .dfRoute => Sys2Proof.Machine.execDfRoute s
  | .hmDerivekey => Sys2Proof.Machine.execHmDerivekey s
  | .hmKeycopy => Sys2Proof.Machine.execHmKeycopy s
  | .hmKeyhash => Sys2Proof.Machine.execHmKeyhash s
  | .hmBuildpads => Sys2Proof.Machine.execHmBuildpads s
  | .hmInner => Sys2Proof.Machine.execHmInner s
  | .hmOuter => Sys2Proof.Machine.execHmOuter s
  | .hmDone => Sys2Proof.Machine.execHmDone s
  | .drInit => Sys2Proof.Machine.execDrInit s
  | .drLoop => Sys2Proof.Machine.execDrLoop s
  | .drEnd => Sys2Proof.Machine.execDrEnd s
  | .errEnter kind => Sys2Proof.Machine.execErrEnter kind s
  | .reset => Sys2Proof.Machine.execReset s

end Sys2Proof.Machine
end

