-- ==== Sys2Proof/Machine/Fetch.lean ====
section
/-! DEFINITION. Where a step comes from (46_sequencer_and_commands.md R255; log 1): the first packet of `sched`, or, when there is
none, the sequencer's candidate step. -/

namespace Sys2Proof.Machine

/-- The step of a packet that is no operation: the write of an ill-formed command word (R95, R256), or a refusal. -/
def rejectPacket (err : DecodeError) (s : State) : Outcome :=
  match err with
  | .reservedCommandBits v => exec (.wrCmd v) s
  | .badHeader header => .refused (.outsideWindow header)
  | .misaligned off => .refused (.misalignedAccess off)
  | .noOperation id => .refused (.noSuchOperation id)
  | .badOperand id operand => .refused (.noSuchOperand id operand)
  | .truncated => .refused .truncatedPacket

/-- The step of a packet: the operation it decodes to. -/
def runPacket (p : Packet) (s : State) : Outcome :=
  match decode p.fmt p.bytes with
  | .ok (i, _) => exec i s
  | .error err => rejectPacket err s

/-- The sequencer's turn: its candidate step, nothing where there is none (R262). -/
def engineTurn (s : State) : Outcome :=
  match s.eng.candidate with
  | some i => exec i s
  | none => s.idle

/-- The state with a packet placed before the steps to come. -/
def State.withPacket (s : State) (p : Packet) : State := { s with sched := p :: s.sched }

/-- One step: the first packet, which is then gone, or the sequencer's turn. -/
def nextStep (s : State) : Outcome :=
  match s.sched with
  | [] => engineTurn s
  | p :: rest => runPacket p { s with sched := rest }

end Sys2Proof.Machine
end

