-- ==== Sys2Proof/Machine/Step.lean ====
section
/-! DEFINITION. The step of the machine, and the placing of a table row's word where the step fetches. -/

namespace Sys2Proof.Machine

/-- One step of the machine (Machine/Fetch.lean). -/
def step (s : State) : Host.Outcome State Fault Refusal := nextStep s

/-- The state with a row's word as the packet of the next step. -/
def State.withFetchWord (s : State) (nbits w : Nat) : State := s.withPacket (Packet.ofTableWord nbits w)

end Sys2Proof.Machine
end

