-- ==== Sys2Proof/Safety.lean ====
section
/-! DEFINITION. What a legal run is and what holds in it: the steps of the three agents (46_sequencer_and_commands.md R255,
70_reset_and_hazards.md R320), the reachable (STAGE, PHASE) pairs (R262) and the invariants of 10_state.md R45. -/

namespace Sys2Proof

/-- The steps the agents of R255 and R320 take: the host's accesses, the six engine steps and reset. The other operations are
names for parts or for runs of these steps (R120, R235, R260, R309; log 18). -/
def Instr.isAgentStep : Instr → Bool
  | .digest _ _ _ | .hmac _ _ _ => true
  | .wrCmd _ | .rdStatus | .rdErr | .rdWant | .rdMsglenLo | .wrMsglenLo _ | .rdMsglenHi | .wrMsglenHi _ => true
  | .rdKeylenLo | .wrKeylenLo _ | .rdKeylenHi | .wrKeylenHi _ | .wrDin _ | .wrDinctl _ => true
  | .rdRlen | .rdDlen | .rdOlen | .rdObuf _ | .busNull _ => true
  | .hmKeycopy | .hmBuildpads | .drInit | .baNext | .ceBlock | .drEnd => true
  | .reset => true
  | .rotr32 _ _ | .rotr64 _ _ | .shr32 _ _ | .shr64 _ _ | .add32 _ _ | .add64 _ _ => false
  | .bsig0x32 _ | .bsig0x64 _ | .bsig1x32 _ | .bsig1x64 _ => false
  | .ssig0x32 _ | .ssig0x64 _ | .ssig1x32 _ | .ssig1x64 _ => false
  | .ch32 _ _ _ | .ch64 _ _ _ | .maj32 _ _ _ | .maj64 _ _ _ | .bswap32 _ | .bswap64 _ => false
  | .vlookup _ _ | .kconst _ => false
  | .baInject | .baFull | .baFinal | .baPadonly | .baLenonly | .baNorm | .baRefill => false
  | .ceLoadw | .ceSched | .ceInitv | .ceRound | .ceFold => false
  | .dfRaw | .dfText | .dfRoute => false
  | .hmDerivekey | .hmKeyhash | .hmInner | .hmOuter | .hmDone => false
  | .drLoop | .errEnter _ => false

/-- A packet that is an agent's step, or no operation at all. -/
def Packet.isAgentStep (p : Packet) : Bool :=
  match decode p.fmt p.bytes with
  | .ok (i, _) => i.isAgentStep
  | .error _ => true

namespace Machine

/-- The (STAGE, PHASE) pairs of R262's table, with the one phase that a stage which the table gives "any" is entered with. -/
def legalPair (st : Stage) (ph : Phase) : Bool :=
  match st, ph with
  | .idle, .init | .error, .init | .buildpads, .init | .done, .format => true
  | .derivekey, _ => true
  | .inner, .init | .inner, .assemble | .inner, .compress | .inner, .format => true
  | .outer, .init | .outer, .assemble | .outer, .compress | .outer, .format => true
  | .plain, .init | .plain, .assemble | .plain, .compress | .plain, .format => true
  | _, _ => false

/-- The result registers and the output buffer are zero (R45 (e)). -/
def Engine.OutputZero (e : Engine) : Prop :=
  e.obuf = Vector.replicate 256 0 ∧ e.rlen = 0 ∧ e.dlen = 0 ∧ e.olen = 0

/-- The selected source and its length, by stage (R42, R236, R239, R241, R257). -/
def Engine.SourceSelected (e : Engine) : Prop :=
  match e.stage with
  | .derivekey | .buildpads => e.src = .key ∧ e.srcLen = e.klen
  | .inner | .plain => e.src = .msg ∧ e.srcLen = e.mlen
  | .outer => e.src = .innerd ∧ e.srcLen = BitVec.ofNat 64 e.digestLength
  | .idle | .done | .error => True

/-- A 64-bit register of a 32-bit variant has a zero upper half (R21, R22, R23). -/
def Fits (wd : Width) (x : Word) : Prop := wd = .w32 → x.toNat < 2 ^ 32

/-- The eight working variables fit the width. -/
def Vars.Fits (wd : Width) (v : Vars) : Prop :=
  Machine.Fits wd v.a ∧ Machine.Fits wd v.b ∧ Machine.Fits wd v.c ∧ Machine.Fits wd v.d ∧
  Machine.Fits wd v.e ∧ Machine.Fits wd v.f ∧ Machine.Fits wd v.g ∧ Machine.Fits wd v.h

/-- The block counters of a digest run: how far `CONSUMED` may be past `TOTAL` (R172, R182), what an injected block not yet
emitted means (R26, R173), and that `remaining` counts the source's untaken bytes (R172). -/
def Engine.Accounted (e : Engine) : Prop :=
  e.consumed.toNat ≤ e.total.toNat + e.lenField ∧
  (e.injv = true → e.consumed = 0 ∧ e.total.toNat = e.srcLen.toNat) ∧
  e.total.toNat ≤ e.srcLen.toNat + e.blockSize ∧
  match e.src with
  | .key | .msg => e.rcvd.toNat + e.remaining.toNat = e.srcLen.toNat + e.ra.length
  | .innerd =>
    e.ipos = 0 ∧
    (e.injv = true ∨ e.consumed.toNat = e.blockSize ∧ e.total.toNat = e.srcLen.toNat + e.blockSize)
  | .none => False

/-- Every byte of the source has been delivered and taken, as it has when the terminal block is there (R172, R184). -/
def Engine.SourceDrained (e : Engine) : Prop :=
  match e.src with
  | .key | .msg => e.rcvd = e.srcLen ∧ e.ra = []
  | .innerd => e.ipos.toNat = e.srcLen.toNat
  | .none => False

/-- What holds of a digest run by its phase. -/
def Engine.RunInv (e : Engine) : Prop :=
  match e.phase with
  | .init =>
    (e.injv = true ↔ e.stage = .inner ∨ e.stage = .outer) ∧
    (e.stage = .outer → e.ipos = 0) ∧ (e.stage ≠ .outer → e.rcvd.toNat = e.ra.length)
  | .assemble => e.Accounted ∧ (e.injv = true → e.stage = .inner ∨ e.stage = .outer)
  | .compress => e.injv = false ∧ (e.term = false → e.Accounted) ∧ (e.term = true → e.SourceDrained)
  | .format => e.injv = false ∧ e.term = true ∧ e.SourceDrained
  | .keycopy => e.injv = false ∧ e.klen.toNat ≤ e.blockSize ∧ e.rcvd.toNat = e.ra.length

/-- The invariants of the engine: those of R45, the pairs of R262, the widths of R21 to R24 and what the block loop needs. -/
structure Engine.Inv (e : Engine) : Prop where
  /-- R45 (a). -/
  idleZero : e.stage = .idle → e = e.cleared
  /-- The state after error entry (R300), which no step but `WR.CMD` or reset leaves (R301). -/
  errorState : e.stage = .error → ∃ k, e = e.enterError k
  /-- R45 (b), the bytes received. -/
  received : e.busy = true → e.src = .key ∨ e.src = .msg → e.rcvd.toNat ≤ e.srcLen.toNat
  /-- R45 (b), the window. -/
  window : e.ra.length ≤ Config.raBytes
  /-- R45 (c). -/
  consumedBound : e.consumed.toNat ≤ e.total.toNat + e.blockSize + e.lenField
  /-- R45 (e). -/
  outputZero : e.stage ≠ .done → e.OutputZero
  /-- R45 (f). -/
  errorCode : e.err ≠ none ↔ e.stage = .error
  /-- R262. -/
  pair : legalPair e.stage e.phase = true
  /-- R42, R78. -/
  source : e.SourceSelected
  /-- R24. -/
  roundIndex : e.t.toNat ≤ e.rounds
  /-- R21. -/
  stateFits : ∀ i : Fin 8, Fits e.width e.h[i]
  /-- R22. -/
  varsFit : e.vars.Fits e.width
  /-- R23. -/
  scheduleFits : ∀ i : Fin 80, Fits e.width e.w[i]
  /-- What the digest run keeps; R45 (d) is its last case. -/
  run : e.stage.isRun = true → e.RunInv

/-- Operations in a row, each on the state the one before it leaves; the first that stops, stops them. -/
def execAll : List Instr → State → Outcome
  | [], s => .next s
  | i :: is, s =>
    match exec i s with
    | .next t => execAll is t
    | .fault r => .fault r
    | .refused r => .refused r

/-- A number of steps of the machine; the first that stops, stops them. -/
def steps : Nat → State → Outcome
  | 0, s => .next s
  | n + 1, s =>
    match step s with
    | .next t => steps n t
    | .fault r => .fault r
    | .refused r => .refused r

/-- The invariant of the model: the engine's, and only agents' steps to come. -/
structure State.Inv (s : State) : Prop where
  engine : s.eng.Inv
  agents : ∀ p ∈ s.sched, p.isAgentStep = true

end Machine

end Sys2Proof
end

