-- ==== Sys2Proof/Certificates/Slice0/Obligations.lean ====
section
/-! DEFINITION. The statements for the provers, each with the rule of spec/ it formalises. An equation `exec i s = .next …` says the
operation's effect, that it completes, and by the record it names that nothing else changes. Values an operation returns stand in
`out` (log 2). -/

open Sys2Proof Sys2Proof.Machine

/-! ## Fetch and encoding -/

/-- A step runs the operation its first packet decodes to, on the state without that packet; the write of a word that is no
command still writes `CMD` (R95, R256), and other packets that are no operation are refused. The queue and the packets are the
model's (log 1, log 3). -/
def Obligations.StepRunsDecodedOperation : Prop :=
  (∀ (s : State) (p : Packet) (rest : List Packet) (i : Instr) (bs : List Byte),
    s.sched = p :: rest → decode p.fmt p.bytes = .ok (i, bs) → step s = exec i { s with sched := rest }) ∧
  (∀ (s : State) (nbits w : Nat) (i : Instr), decodeTableWord nbits w = some i → step (s.withFetchWord nbits w) = exec i s) ∧
  (∀ (s : State) (p : Packet) (rest : List Packet) (v : BitVec 32),
    s.sched = p :: rest → decode p.fmt p.bytes = .error (.reservedCommandBits v) →
      step s = exec (.wrCmd v) { s with sched := rest }) ∧
  (∀ (s : State) (p : Packet) (rest : List Packet) (err : DecodeError),
    s.sched = p :: rest → decode p.fmt p.bytes = .error err → (∀ v, err ≠ .reservedCommandBits v) →
      ∃ r, step s = .refused r)

/-- When no packet is queued the sequencer takes the candidate step of R262's table, and takes none in IDLE, DONE and ERROR
(R255). That it moves when the queue is empty is the model's choice (log 1). -/
def Obligations.EmptyQueueTakesCandidateStep : Prop :=
  ∀ s : State, s.sched = [] →
    (s.eng.stage = .derivekey → s.eng.phase = .keycopy → step s = exec .hmKeycopy s) ∧
    (s.eng.stage = .buildpads → s.eng.phase = .init → step s = exec .hmBuildpads s) ∧
    (s.eng.stage ∈ [Stage.derivekey, .inner, .outer, .plain] →
      (s.eng.phase = .init → step s = exec .drInit s) ∧
      (s.eng.phase = .assemble → step s = exec .baNext s) ∧
      (s.eng.phase = .compress → step s = exec .ceBlock s) ∧
      (s.eng.phase = .format → step s = exec .drEnd s)) ∧
    (s.eng.busy = false → step s = .next s)

/-- Decoding the encoding of a well-formed operation gives it back, with every operand, whatever bytes follow. -/
def Obligations.DecodeEncodeAgree : Prop :=
  ∀ (i : Instr) (rest : List Byte), i.wellFormed = true →
    decode (encode i).fmt ((encode i).bytes ++ rest) = .ok (i, rest)

/-- What decodes is well-formed. -/
def Obligations.DecodedOperationsAreWellFormed : Prop :=
  ∀ (fmt : Format) (bs rest : List Byte) (i : Instr), decode fmt bs = .ok (i, rest) → i.wellFormed = true

/-- A few words written out from the tables of R91, R104, R105 and R110, one for each unit. The tables give the command word, the
header and the identifier; the operands of zeros that follow, and what they spell, are the model's layout (log 3). -/
def Obligations.SpecWordsDecode : Prop :=
  decodeTableWord 32 0b00000000000000000000000000010010 = some (.digest true 1#3 false) ∧
  decodeTableWord 32 0b00000000000000000000000011010001 = some (.hmac false 5#3 true) ∧
  decodeTableWord 16 0b0000001000100000 = some (.wrDin 0#32) ∧
  decodeTableWord 16 0b0000000111111100 = some (.rdObuf 63#6) ∧
  decodeTableWord 8 0b00000000 = some (.rotr32 0#32 0#8) ∧
  decodeTableWord 8 0b10000111 = some (.ch64 0#64 0#64 0#64) ∧
  decodeTableWord 8 0b00010000 = some (.vlookup 0#3 false) ∧
  decodeTableWord 8 0b00100000 = some .baNext ∧
  decodeTableWord 8 0b00110101 = some .ceBlock ∧
  decodeTableWord 8 0b01000010 = some .dfRoute ∧
  decodeTableWord 8 0b01010101 = some .hmOuter ∧
  decodeTableWord 8 0b01100010 = some .drEnd ∧
  decodeTableWord 8 0b01110000 = some (.errEnter .unknownVariant) ∧
  decodeTableWord 8 0b01110001 = some .reset

/-- The table of R104: every aligned access is the operation listed for it or `BUS.NULL`, and a misaligned one is refused. The
layout of header and value is the model's (log 3). -/
def Obligations.BusAccessesDecodeByTable : Prop :=
  ∀ (off : BitVec 9) (v : BitVec 32) (rest : List Byte),
    (off.toNat % 4 ≠ 0 →
      decode .bus (leBytes 2 off.toNat ++ rest) = .error (.misaligned off) ∧
      decode .bus (leBytes 2 (0x200 + off.toNat) ++ leBytes 4 v.toNat ++ rest) = .error (.misaligned off)) ∧
    (off.toNat % 4 = 0 →
      decode .bus (leBytes 2 off.toNat ++ rest) = .ok
        ((([(0x004, .rdStatus), (0x008, .rdErr), (0x00C, .rdWant), (0x010, .rdMsglenLo), (0x014, .rdMsglenHi),
            (0x018, .rdKeylenLo), (0x01C, .rdKeylenHi), (0x028, .rdRlen), (0x02C, .rdDlen), (0x030, .rdOlen)] :
            List (Nat × Instr)).lookup off.toNat).getD
          (if 0x100 ≤ off.toNat then .rdObuf (BitVec.ofNat 6 ((off.toNat - 0x100) / 4)) else .busNull (.read off)), rest) ∧
      decode .bus (leBytes 2 (0x200 + off.toNat) ++ leBytes 4 v.toNat ++ rest) = .ok
        ((([(0x000, .wrCmd v), (0x010, .wrMsglenLo v), (0x014, .wrMsglenHi v), (0x018, .wrKeylenLo v),
            (0x01C, .wrKeylenHi v), (0x020, .wrDin v), (0x024, .wrDinctl v)] : List (Nat × Instr)).lookup off.toNat).getD
          (.busNull (.write off v)), rest))

/-- An identifier names no operation exactly when R105's table does not list it. -/
def Obligations.UnlistedIdentifiersAreRefused : Prop :=
  ∀ (id : Byte) (rest : List Byte),
    decode .uop (id :: rest) = .error (.noOperation id) ↔
      id.toNat ∉ List.range 10 ++ (List.range 10).map (0x80 + ·) ++ [0x10, 0x11] ++ (List.range 8).map (0x20 + ·) ++
        (List.range 6).map (0x30 + ·) ++ (List.range 3).map (0x40 + ·) ++ (List.range 7).map (0x50 + ·) ++
        (List.range 3).map (0x60 + ·) ++ [0x70, 0x71]

/-- R92: `DIGEST` is match 0x00000000, mask 0xFFFFFF0D, `HMAC` match 0x00000001 with the same mask; R91: the fields; R95: a word
with a reserved bit set spells no command. -/
def Obligations.CommandWordsDecodeByMask : Prop :=
  ∀ v : BitVec 32,
    (v &&& 0xFFFFFF0D#32 = 0x00000000#32 →
      decodeCommand v = .ok (.digest (v.getLsbD 1) (v.extractLsb' 4 3) (v.getLsbD 7))) ∧
    (v &&& 0xFFFFFF0D#32 = 0x00000001#32 →
      decodeCommand v = .ok (.hmac (v.getLsbD 1) (v.extractLsb' 4 3) (v.getLsbD 7))) ∧
    (v &&& 0xFFFFFF0C#32 ≠ 0#32 → decodeCommand v = .error (.reservedCommandBits v))

/-! ## WordOps -/

/-- R121: bit `i` of `ROTR(x, n)` is bit `(i + n) mod W` of `x`; R122: `SHR(x, n)` is `floor(x / 2^n)`. Outside the amounts the
rules define the operations complete with some word (a free value, log 5). Nothing but the returned value changes (log 2). -/
def Obligations.RotateAndShiftRight : Prop :=
  (∀ (x : BitVec 32) (n : BitVec 8) (s : State), ∃ y : BitVec 32,
    exec (.rotr32 x n) s = .next (s.returning (.word32 y)) ∧
    (0 < n.toNat → n.toNat < 32 → ∀ i, i < 32 → y.getLsbD i = x.getLsbD ((i + n.toNat) % 32))) ∧
  (∀ (x : BitVec 64) (n : BitVec 8) (s : State), ∃ y : BitVec 64,
    exec (.rotr64 x n) s = .next (s.returning (.word64 y)) ∧
    (0 < n.toNat → n.toNat < 64 → ∀ i, i < 64 → y.getLsbD i = x.getLsbD ((i + n.toNat) % 64))) ∧
  (∀ (x : BitVec 32) (n : BitVec 8) (s : State), ∃ y : BitVec 32,
    exec (.shr32 x n) s = .next (s.returning (.word32 y)) ∧
    (0 < n.toNat → n.toNat < 32 → y.toNat = x.toNat / 2 ^ n.toNat)) ∧
  (∀ (x : BitVec 64) (n : BitVec 8) (s : State), ∃ y : BitVec 64,
    exec (.shr64 x n) s = .next (s.returning (.word64 y)) ∧
    (0 < n.toNat → n.toNat < 64 → y.toNat = x.toNat / 2 ^ n.toNat))

/-- R124 to R131, bit by bit: each sigma is the exclusive-or of the three rotated or shifted words. -/
def Obligations.SigmaFunctionsBitwise : Prop :=
  (∀ (f : BitVec 32 → Instr) (a b c : Nat),
    (f, a, b, c) ∈ [(Instr.bsig0x32, 2, 13, 22), (Instr.bsig1x32, 6, 11, 25)] →
    ∀ (x : BitVec 32) (s : State), ∃ y : BitVec 32, exec (f x) s = .next (s.returning (.word32 y)) ∧
      ∀ i, i < 32 →
        y.getLsbD i = (x.getLsbD ((i + a) % 32) ^^ x.getLsbD ((i + b) % 32) ^^ x.getLsbD ((i + c) % 32))) ∧
  (∀ (f : BitVec 64 → Instr) (a b c : Nat),
    (f, a, b, c) ∈ [(Instr.bsig0x64, 28, 34, 39), (Instr.bsig1x64, 14, 18, 41)] →
    ∀ (x : BitVec 64) (s : State), ∃ y : BitVec 64, exec (f x) s = .next (s.returning (.word64 y)) ∧
      ∀ i, i < 64 →
        y.getLsbD i = (x.getLsbD ((i + a) % 64) ^^ x.getLsbD ((i + b) % 64) ^^ x.getLsbD ((i + c) % 64))) ∧
  (∀ (f : BitVec 32 → Instr) (a b c : Nat),
    (f, a, b, c) ∈ [(Instr.ssig0x32, 7, 18, 3), (Instr.ssig1x32, 17, 19, 10)] →
    ∀ (x : BitVec 32) (s : State), ∃ y : BitVec 32, exec (f x) s = .next (s.returning (.word32 y)) ∧
      ∀ i, i < 32 →
        y.getLsbD i = (x.getLsbD ((i + a) % 32) ^^ x.getLsbD ((i + b) % 32) ^^ (decide (i + c < 32) && x.getLsbD (i + c)))) ∧
  (∀ (f : BitVec 64 → Instr) (a b c : Nat),
    (f, a, b, c) ∈ [(Instr.ssig0x64, 1, 8, 7), (Instr.ssig1x64, 19, 61, 6)] →
    ∀ (x : BitVec 64) (s : State), ∃ y : BitVec 64, exec (f x) s = .next (s.returning (.word64 y)) ∧
      ∀ i, i < 64 →
        y.getLsbD i = (x.getLsbD ((i + a) % 64) ^^ x.getLsbD ((i + b) % 64) ^^ (decide (i + c < 64) && x.getLsbD (i + c))))

/-- R123: `ADD(x, y) = (x + y) mod 2^W`. R132: where `x` has a 1 `CH` takes the bit of `y`, where it has a 0 the bit of `z`. R133:
`MAJ` is bit by bit the majority. -/
def Obligations.AddChoiceMajority : Prop :=
  (∀ (x y : BitVec 32) (s : State), ∃ r : BitVec 32,
    exec (.add32 x y) s = .next (s.returning (.word32 r)) ∧ r.toNat = (x.toNat + y.toNat) % 2 ^ 32) ∧
  (∀ (x y : BitVec 64) (s : State), ∃ r : BitVec 64,
    exec (.add64 x y) s = .next (s.returning (.word64 r)) ∧ r.toNat = (x.toNat + y.toNat) % 2 ^ 64) ∧
  (∀ (x y z : BitVec 32) (s : State), ∃ r : BitVec 32,
    exec (.ch32 x y z) s = .next (s.returning (.word32 r)) ∧
    ∀ i, i < 32 → r.getLsbD i = if x.getLsbD i then y.getLsbD i else z.getLsbD i) ∧
  (∀ (x y z : BitVec 64) (s : State), ∃ r : BitVec 64,
    exec (.ch64 x y z) s = .next (s.returning (.word64 r)) ∧
    ∀ i, i < 64 → r.getLsbD i = if x.getLsbD i then y.getLsbD i else z.getLsbD i) ∧
  (∀ (x y z : BitVec 32) (s : State), ∃ r : BitVec 32,
    exec (.maj32 x y z) s = .next (s.returning (.word32 r)) ∧
    ∀ i, i < 32 → r.getLsbD i = decide (2 ≤ (x.getLsbD i).toNat + (y.getLsbD i).toNat + (z.getLsbD i).toNat)) ∧
  (∀ (x y z : BitVec 64) (s : State), ∃ r : BitVec 64,
    exec (.maj64 x y z) s = .next (s.returning (.word64 r)) ∧
    ∀ i, i < 64 → r.getLsbD i = decide (2 ≤ (x.getLsbD i).toNat + (y.getLsbD i).toNat + (z.getLsbD i).toNat))

/-- R134: the bytes of `x` in reversed order. -/
def Obligations.ByteSwapReversesBytes : Prop :=
  (∀ (x : BitVec 32) (s : State), ∃ y : BitVec 32, exec (.bswap32 x) s = .next (s.returning (.word32 y)) ∧
    ∀ k, k < 4 → y.extractLsb' (8 * k) 8 = x.extractLsb' (8 * (3 - k)) 8) ∧
  (∀ (x : BitVec 64) (s : State), ∃ y : BitVec 64, exec (.bswap64 x) s = .next (s.returning (.word64 y)) ∧
    ∀ k, k < 8 → y.extractLsb' (8 * k) 8 = x.extractLsb' (8 * (7 - k)) 8)

/-! ## VariantTable -/

/-- R150, R152, R153 to R158: the six valid pairs return their rows, the initial vector among them (returned in `out`, log 2), the
other ten raise `UnknownVariant` (log 13). The columns are `W`, `B`, `NR`, `LF`, `NW`, `DLEN` and the initial vector, `H[0]` first,
32-bit words zero-extended (log 14); every row has 8 state words and `2 * DLEN` text characters. -/
def Obligations.VariantLookup : Prop :=
  ∀ (n : BitVec 3) (w : Bool) (s : State),
    (∀ (v : Variant) (wd : Width) (b nr lf nw dl : Nat) (h0 : Vector Word 8),
      (n.toNat, w, v, wd, b, nr, lf, nw, dl, h0) ∈
        ([(0, false, .v224, .w32, 64, 64, 8, 7, 28,
            #v[0xc1059ed8, 0x367cd507, 0x3070dd17, 0xf70e5939,
               0xffc00b31, 0x68581511, 0x64f98fa7, 0xbefa4fa4]),
          (1, false, .v256, .w32, 64, 64, 8, 8, 32,
            #v[0x6a09e667, 0xbb67ae85, 0x3c6ef372, 0xa54ff53a,
               0x510e527f, 0x9b05688c, 0x1f83d9ab, 0x5be0cd19]),
          (2, true, .v384, .w64, 128, 80, 16, 6, 48,
            #v[0xcbbb9d5dc1059ed8, 0x629a292a367cd507, 0x9159015a3070dd17, 0x152fecd8f70e5939,
               0x67332667ffc00b31, 0x8eb44a8768581511, 0xdb0c2e0d64f98fa7, 0x47b5481dbefa4fa4]),
          (3, true, .v512, .w64, 128, 80, 16, 8, 64,
            #v[0x6a09e667f3bcc908, 0xbb67ae8584caa73b, 0x3c6ef372fe94f82b, 0xa54ff53a5f1d36f1,
               0x510e527fade682d1, 0x9b05688c2b3e6c1f, 0x1f83d9abfb41bd6b, 0x5be0cd19137e2179]),
          (4, true, .v512t224, .w64, 128, 80, 16, 4, 28,
            #v[0x8c3d37c819544da2, 0x73e1996689dcd4d6, 0x1dfab7ae32ff9c82, 0x679dd514582f9fcf,
               0x0f6d2b697bd44da8, 0x77e36f7304c48942, 0x3f9d85a86a1d36c8, 0x1112e6ad91d692a1]),
          (5, true, .v512t256, .w64, 128, 80, 16, 4, 32,
            #v[0x22312194fc2bf72c, 0x9f555fa3c84c64c2, 0x2393b86b6f53b151, 0x963877195940eabd,
               0x96283ee2a88effe3, 0xbe5e1e2553863992, 0x2b0199fc2c85b8aa, 0x0eb72ddc81c52ca2])] :
          List (Nat × Bool × Variant × Width × Nat × Nat × Nat × Nat × Nat × Vector Word 8)) →
      exec (.vlookup n w) s = .next (s.returning (.params
        { variant := v, width := wd, blockBytes := b, stateWords := 8, rounds := nr, lenField := lf, iv := h0,
          digestWords := nw, digestBytes := dl, textChars := 2 * dl }))) ∧
    ((n.toNat, w) ∉ [(0, false), (1, false), (2, true), (3, true), (4, true), (5, true)] →
      exec (.vlookup n w) s = .next (s.withEng (s.eng.enterError .unknownVariant)))

/-- R162: the round constants are the first `W` bits of the fractional parts of the cube roots of the first primes, and four of
the initial vectors those of square roots (of the first eight for "256" and "512", the next eight for "384", the low halves of
"384" for "224"); `n` is the integral part of the root. For `t` not below `NR`, `KCONST` completes with some word (log 6). -/
def Obligations.ConstantsAreRootsOfPrimes : Prop :=
  (∀ (s : State) (t : BitVec 7), ∃ k : Word,
    exec (.kconst t) s = .next (s.returning (match s.eng.width with
      | .w32 => .word32 (k.setWidth 32)
      | .w64 => .word64 k)) ∧
    ∀ p, ([2, 3, 5, 7, 11, 13, 17, 19, 23, 29, 31, 37, 41, 43, 47, 53, 59, 61, 67, 71] ++
      [73, 79, 83, 89, 97, 101, 103, 107, 109, 113, 127, 131, 137, 139, 149, 151, 157, 163, 167, 173] ++
      [179, 181, 191, 193, 197, 199, 211, 223, 227, 229, 233, 239, 241, 251, 257, 263, 269, 271, 277, 281] ++
      [283, 293, 307, 311, 313, 317, 331, 337, 347, 349, 353, 359, 367, 373, 379, 383, 389, 397, 401, 409])[t.toNat]? = some p →
      t.toNat < s.eng.rounds → k.toNat < 2 ^ s.eng.width.bits ∧ ∃ n,
        (n * 2 ^ s.eng.width.bits + k.toNat) ^ 3 ≤ p * 2 ^ (3 * s.eng.width.bits) ∧
        p * 2 ^ (3 * s.eng.width.bits) < (n * 2 ^ s.eng.width.bits + k.toNat + 1) ^ 3) ∧
  (∀ (name : Variant) (W : Nat) (primes : List Nat),
    (name, W, primes) ∈ ([(.v256, 32, [2, 3, 5, 7, 11, 13, 17, 19]), (.v512, 64, [2, 3, 5, 7, 11, 13, 17, 19]),
      (.v384, 64, [23, 29, 31, 37, 41, 43, 47, 53])] : List (Variant × Nat × List Nat)) →
    ∀ (i : Fin 8) (p : Nat), primes[i.val]? = some p → (iv name)[i].toNat < 2 ^ W ∧ ∃ n,
      (n * 2 ^ W + (iv name)[i].toNat) ^ 2 ≤ p * 2 ^ (2 * W) ∧ p * 2 ^ (2 * W) < (n * 2 ^ W + (iv name)[i].toNat + 1) ^ 2) ∧
  (∀ i : Fin 8, (iv .v224)[i].toNat = (iv .v384)[i].toNat % 2 ^ 32)

/-! ## BlockAssembler -/

/-- R74: `SrcAvail` and `SrcTake`. A source that is none hands over nothing (log 9). -/
def Obligations.SourceHandsOverInOrder : Prop :=
  ∀ (e : Engine) (n : Nat),
    (e.src = .key ∨ e.src = .msg → e.srcAvail = e.ra.length ∧ (n ≤ e.srcAvail →
      (e.srcBytes n).length = n ∧ e.srcBytes n ++ (e.srcTaken n).ra = e.ra ∧
      e.srcTaken n = { e with ra := (e.srcTaken n).ra })) ∧
    (e.src = .innerd → e.ipos.toNat ≤ e.srcLen.toNat → e.srcLen.toNat ≤ 64 →
      e.srcAvail = e.srcLen.toNat - e.ipos.toNat ∧ (n ≤ e.srcAvail →
        (e.srcBytes n).length = n ∧ (∀ k, k < n → (e.srcBytes n)[k]? = e.innerd[e.ipos.toNat + k]?) ∧
        (e.srcTaken n).ipos.toNat = e.ipos.toNat + n ∧ e.srcTaken n = { e with ipos := (e.srcTaken n).ipos })) ∧
    e.srcTaken 0 = e

/-- R171: `BA.NEXT` selects exactly one of the five block operations, by `INJV`, `TOTAL`, `CONSUMED` and the variant alone, then
`PHASE <- P_COMPRESS`; it waits for the source bytes the block takes, and is enabled in `P_ASSEMBLE` only. That it answers the
unchanged state where it waits or is not enabled is the model's reading (log 8). -/
def Obligations.NextBlockSelectsByRemaining : Prop :=
  ∀ (s : State) (remaining : Int), remaining = (s.eng.total.toNat : Int) - s.eng.consumed.toNat →
    (s.eng.stage ∈ [Stage.derivekey, .inner, .outer, .plain] → s.eng.phase = .assemble →
      (s.eng.injv = true ∨ min (max remaining 0) s.eng.blockSize ≤ s.eng.srcAvail) →
      ∃ t, exec (if s.eng.injv then .baInject else if (s.eng.blockSize : Int) ≤ remaining then .baFull
          else if remaining < 0 then .baLenonly
          else if (s.eng.lenField : Int) ≤ s.eng.blockSize - (remaining + 1) then .baFinal else .baPadonly) s = .next t ∧
        exec .baNext s = .next (t.withEng { t.eng with phase := .compress })) ∧
    (s.eng.injv = false → s.eng.srcAvail < min (max remaining 0) s.eng.blockSize → exec .baNext s = .next s) ∧
    (s.eng.phase ≠ .assemble → exec .baNext s = .next s)

/-- R173: `BA.INJECT` emits the injected block; `TOTAL` and `CONSUMED` advance by `B`. That `BLK` keeps its bytes from `B` on is the
model's reading (log 20). -/
def Obligations.InjectEmitsInjectedBlock : Prop :=
  ∀ s : State, s.eng.injv = true → ∃ blk : Vector Byte 128,
    exec .baInject s = .next (s.withEng { s.eng with
      blk := blk, injv := false, term := false
      total := s.eng.total + BitVec.ofNat 65 s.eng.blockSize
      consumed := s.eng.consumed + BitVec.ofNat 66 s.eng.blockSize }) ∧
    ∀ i : Fin 128, blk[i] = if i.val < s.eng.blockSize then s.eng.iblk[i] else s.eng.blk[i]

/-- R176: `BA.FULL` copies the next `B` source bytes. `INNERD` has 64 bytes (R28). That `BLK` keeps its bytes from `B` on is the
model's reading (log 20). -/
def Obligations.FullCopiesOneBlock : Prop :=
  ∀ s : State, s.eng.injv = false → (s.eng.blockSize : Int) ≤ (s.eng.total.toNat : Int) - s.eng.consumed.toNat →
    s.eng.blockSize ≤ s.eng.srcAvail → (s.eng.src = .innerd → s.eng.srcLen.toNat ≤ 64) → ∃ blk : Vector Byte 128,
    exec .baFull s = .next (s.withEng { s.eng.srcTaken s.eng.blockSize with
      blk := blk, term := false, consumed := s.eng.consumed + BitVec.ofNat 66 s.eng.blockSize }) ∧
    ∀ i : Fin 128, if i.val < s.eng.blockSize then (s.eng.srcBytes s.eng.blockSize)[i.val]? = some blk[i]
      else blk[i] = s.eng.blk[i]

/-- R177, R178: `BA.FINAL` writes the `n` remaining bytes, 0x80, zeros and the big-endian bit length modulo 2^64.
That `BLK` keeps its bytes from `B` on is the model's reading (log 20). -/
def Obligations.FinalPadsAndEncodesLength : Prop :=
  ∀ (s : State) (n : Nat), s.eng.injv = false → (n : Int) = (s.eng.total.toNat : Int) - s.eng.consumed.toNat →
    n + 1 + s.eng.lenField ≤ s.eng.blockSize → n ≤ s.eng.srcAvail → (s.eng.src = .innerd → s.eng.srcLen.toNat ≤ 64) →
    ∃ blk : Vector Byte 128,
    exec .baFinal s = .next (s.withEng { s.eng.srcTaken n with
      blk := blk, term := true, consumed := s.eng.consumed + BitVec.ofNat 66 s.eng.blockSize }) ∧
    ∀ i : Fin 128,
      (i.val < n → (s.eng.srcBytes n)[i.val]? = some blk[i]) ∧
      (i.val = n → blk[i] = 0x80#8) ∧
      (n < i.val → i.val < s.eng.blockSize - 8 → blk[i] = 0x00#8) ∧
      (s.eng.blockSize - 8 ≤ i.val → i.val < s.eng.blockSize →
        blk[i].toNat = (s.eng.total.toNat * 8) % 2 ^ 64 / 256 ^ (s.eng.blockSize - 1 - i.val) % 256) ∧
      (s.eng.blockSize ≤ i.val → blk[i] = s.eng.blk[i])

/-- R179: `BA.PADONLY` writes the `n` remaining bytes, 0x80 and zeros, and is not terminal. That `BLK` keeps its bytes
from `B` on is the model's reading (log 20). -/
def Obligations.PadOnlyEndsWithZeros : Prop :=
  ∀ (s : State) (n : Nat), s.eng.injv = false → (n : Int) = (s.eng.total.toNat : Int) - s.eng.consumed.toNat →
    n < s.eng.blockSize → s.eng.blockSize < n + 1 + s.eng.lenField → n ≤ s.eng.srcAvail →
    (s.eng.src = .innerd → s.eng.srcLen.toNat ≤ 64) → ∃ blk : Vector Byte 128,
    exec .baPadonly s = .next (s.withEng { s.eng.srcTaken n with
      blk := blk, term := false, consumed := s.eng.consumed + BitVec.ofNat 66 s.eng.blockSize }) ∧
    ∀ i : Fin 128,
      (i.val < n → (s.eng.srcBytes n)[i.val]? = some blk[i]) ∧
      (i.val = n → blk[i] = 0x80#8) ∧
      (n < i.val → i.val < s.eng.blockSize → blk[i] = 0x00#8) ∧
      (s.eng.blockSize ≤ i.val → blk[i] = s.eng.blk[i])

/-- R180: `BA.LENONLY` writes zeros and the length, no 0x80, takes no source byte and is terminal. That `BLK` keeps its bytes
from `B` on is the model's reading (log 20). -/
def Obligations.LenOnlyCarriesLengthOnly : Prop :=
  ∀ s : State, s.eng.injv = false → (s.eng.total.toNat : Int) - s.eng.consumed.toNat < 0 → ∃ blk : Vector Byte 128,
    exec .baLenonly s = .next (s.withEng { s.eng with
      blk := blk, term := true, consumed := s.eng.consumed + BitVec.ofNat 66 s.eng.blockSize }) ∧
    ∀ i : Fin 128,
      (i.val < s.eng.blockSize - 8 → blk[i] = 0x00#8) ∧
      (s.eng.blockSize - 8 ≤ i.val → i.val < s.eng.blockSize →
        blk[i].toNat = (s.eng.total.toNat * 8) % 2 ^ 64 / 256 ^ (s.eng.blockSize - 1 - i.val) % 256) ∧
      (s.eng.blockSize ≤ i.val → blk[i] = s.eng.blk[i])

/-- R181, R68: `BA.NORM` returns 16 words (log 2), word `j` the big-endian value of the `WB` bytes from `j * WB`. -/
def Obligations.NormReadsWordsBigEndian : Prop :=
  ∀ s : State, ∃ m : List Word, exec .baNorm s = .next (s.returning (.words m)) ∧ m.length = 16 ∧
    ∀ j, j < 16 → ∃ x, m[j]? = some x ∧ x.toNat < 256 ^ s.eng.width.bytes ∧
      ∀ k, k < s.eng.width.bytes → ∃ b, s.eng.blk[j * s.eng.width.bytes + k]? = some b ∧
        x.toNat / 256 ^ (s.eng.width.bytes - 1 - k) % 256 = b.toNat

/-- Where nothing happens: `BA.REFILL` names a wait (R183); a block operation that is not the one R171 selects, or whose source bytes
are not there, waits (R18, R174; log 8), and so do `DR.INIT`, `BA.NEXT`, `CE.BLOCK`, `DR.END`, `HM.KEYCOPY` and `HM.BUILDPADS`
outside their stage or phase (R262; log 8) and `HM.DERIVEKEY`, `HM.KEYHASH`, `HM.OUTER` and `HM.DONE` outside the stage they start
from (R235; log 10); a round past `NR` is none (log 11), `DF.ROUTE` in a stage without a digest routes nothing (log 12). -/
def Obligations.WaitingOperationsChangeNothing : Prop :=
  ∀ (s : State) (remaining : Int), remaining = (s.eng.total.toNat : Int) - s.eng.consumed.toNat →
    exec .baRefill s = .next s ∧
    (s.eng.injv = true → ∀ i ∈ [Instr.baFull, .baFinal, .baPadonly, .baLenonly], exec i s = .next s) ∧
    (s.eng.injv = false → exec .baInject s = .next s) ∧
    (remaining < s.eng.blockSize → exec .baFull s = .next s) ∧
    (0 ≤ remaining → exec .baLenonly s = .next s) ∧
    (remaining < 0 ∨ s.eng.blockSize ≤ remaining → ∀ i ∈ [Instr.baFinal, .baPadonly], exec i s = .next s) ∧
    (s.eng.blockSize - (remaining + 1) < s.eng.lenField → exec .baFinal s = .next s) ∧
    (s.eng.lenField ≤ s.eng.blockSize - (remaining + 1) → exec .baPadonly s = .next s) ∧
    (s.eng.srcAvail < min (max remaining 0) s.eng.blockSize →
      ∀ i ∈ [Instr.baFull, .baFinal, .baPadonly], exec i s = .next s) ∧
    (s.eng.rounds ≤ s.eng.t.toNat → exec .ceRound s = .next s) ∧
    (s.eng.stage ∉ [Stage.derivekey, .inner, .outer, .plain] →
      ∀ i ∈ [Instr.dfRoute, .drInit, .baNext, .ceBlock, .drEnd], exec i s = .next s) ∧
    (s.eng.phase ≠ .init → exec .drInit s = .next s) ∧
    (s.eng.phase ≠ .assemble → exec .baNext s = .next s) ∧
    (s.eng.phase ≠ .compress → exec .ceBlock s = .next s) ∧
    (s.eng.phase ≠ .format → exec .drEnd s = .next s) ∧
    (s.eng.stage ≠ .derivekey ∨ s.eng.phase ≠ .keycopy ∨ s.eng.srcAvail < s.eng.klen.toNat → exec .hmKeycopy s = .next s) ∧
    (s.eng.stage ≠ .buildpads ∨ s.eng.phase ≠ .init → exec .hmBuildpads s = .next s) ∧
    (s.eng.busy = true → exec .hmDerivekey s = .next s) ∧
    (s.eng.stage ≠ .derivekey ∨ s.eng.phase ≠ .format → exec .hmKeyhash s = .next s) ∧
    (s.eng.stage ≠ .inner ∨ s.eng.phase ≠ .format → exec .hmOuter s = .next s) ∧
    (s.eng.stage ≠ .outer ∨ s.eng.phase ≠ .format → exec .hmDone s = .next s)

/-! ## CompressionEngine -/

/-- R201: `CE.LOADW` loads the block's 16 words, big-endian, and leaves the other entries. -/
def Obligations.LoadWordsBigEndian : Prop :=
  ∀ s : State, ∃ w : Vector Word 80, exec .ceLoadw s = .next (s.withEng { s.eng with w := w }) ∧
    ∀ j : Fin 80,
      (j.val < 16 → w[j].toNat < 256 ^ s.eng.width.bytes ∧
        ∀ k, k < s.eng.width.bytes → ∃ b, s.eng.blk[j.val * s.eng.width.bytes + k]? = some b ∧
          w[j].toNat / 256 ^ (s.eng.width.bytes - 1 - k) % 256 = b.toNat) ∧
      (16 ≤ j.val → w[j] = s.eng.w[j])

/-- R202 at both widths: after `CE.SCHED` every entry 16 to `NR - 1` meets the recurrence over the entries as they are then, and the
others are as they were. In a 32-bit variant the registers' low halves are used and the results' upper halves are zero (log 14).
`T` is left alone, as R202 has it where R24 does not (log 28). -/
def Obligations.ScheduleMeetsRecurrence : Prop :=
  ∀ s : State, ∃ w : Vector Word 80, exec .ceSched s = .next (s.withEng { s.eng with w := w }) ∧
    (s.eng.width = .w64 → ∀ i (h : i < 80), 16 ≤ i →
      w[i] = w[i - 16] + ssig0x64 (w[i - 15]) + w[i - 7] + ssig1x64 (w[i - 2])) ∧
    (s.eng.width = .w32 → ∀ i (h : i < 64), 16 ≤ i →
      w[i] = ((w[i - 16]).setWidth 32 + ssig0x32 ((w[i - 15]).setWidth 32) + (w[i - 7]).setWidth 32 +
        ssig1x32 ((w[i - 2]).setWidth 32)).setWidth 64) ∧
    ∀ i (h : i < 80), (i < 16 ∨ s.eng.rounds ≤ i) → w[i] = s.eng.w[i]

/-- R203, R204, R205 at both widths. In a 32-bit variant the registers' low halves are used and the results' upper halves are zero
(log 14). That `CE.INITV` writes `T` is R203's, where R24 says otherwise (log 28). -/
def Obligations.RoundAndFold : Prop :=
  ∀ s : State,
    exec .ceInitv s = .next (s.withEng { s.eng with
      vars := ⟨s.eng.h[0], s.eng.h[1], s.eng.h[2], s.eng.h[3], s.eng.h[4], s.eng.h[5], s.eng.h[6], s.eng.h[7]⟩, t := 0 }) ∧
    (s.eng.width = .w64 → ∀ (hT : s.eng.t.toNat < 80), ∀ t1 t2 : BitVec 64,
      t1 = s.eng.vars.h + bsig1x64 s.eng.vars.e + chWords s.eng.vars.e s.eng.vars.f s.eng.vars.g +
        roundConstant .w64 s.eng.t.toNat + s.eng.w[s.eng.t.toNat] →
      t2 = bsig0x64 s.eng.vars.a + majWords s.eng.vars.a s.eng.vars.b s.eng.vars.c →
      exec .ceRound s = .next (s.withEng { s.eng with t := s.eng.t + 1
                                                      vars := ⟨t1 + t2, s.eng.vars.a, s.eng.vars.b, s.eng.vars.c,
                                                        s.eng.vars.d + t1, s.eng.vars.e, s.eng.vars.f, s.eng.vars.g⟩ })) ∧
    (s.eng.width = .w32 → ∀ (hT : s.eng.t.toNat < 64), ∀ t1 t2 : BitVec 32,
      t1 = s.eng.vars.h.setWidth 32 + bsig1x32 (s.eng.vars.e.setWidth 32) +
        chWords (s.eng.vars.e.setWidth 32) (s.eng.vars.f.setWidth 32) (s.eng.vars.g.setWidth 32) +
        (roundConstant .w32 s.eng.t.toNat).setWidth 32 + (s.eng.w[s.eng.t.toNat]).setWidth 32 →
      t2 = bsig0x32 (s.eng.vars.a.setWidth 32) +
        majWords (s.eng.vars.a.setWidth 32) (s.eng.vars.b.setWidth 32) (s.eng.vars.c.setWidth 32) →
      exec .ceRound s = .next (s.withEng { s.eng with t := s.eng.t + 1
                                                      vars := ⟨(t1 + t2).setWidth 64, s.eng.vars.a, s.eng.vars.b, s.eng.vars.c,
                                                        (s.eng.vars.d.setWidth 32 + t1).setWidth 64, s.eng.vars.e,
                                                        s.eng.vars.f, s.eng.vars.g⟩ })) ∧
    ∃ h : Vector Word 8, exec .ceFold s = .next (s.withEng { s.eng with h := h }) ∧
      ∀ (i : Fin 8) (x : Word),
        [s.eng.vars.a, s.eng.vars.b, s.eng.vars.c, s.eng.vars.d, s.eng.vars.e, s.eng.vars.f, s.eng.vars.g,
          s.eng.vars.h][i.val]? = some x →
        h[i].toNat = (s.eng.h[i].toNat + x.toNat) % 2 ^ s.eng.width.bits

/-- R206: `CE.BLOCK` is its five parts in order, the round `NR` times, and `TERM` selects the phase after it. -/
def Obligations.BlockIsItsFiveParts : Prop :=
  ∀ s : State, s.eng.stage ∈ [Stage.derivekey, .inner, .outer, .plain] → s.eng.phase = .compress →
    ∃ t, execAll ([.ceLoadw, .ceSched, .ceInitv] ++ List.replicate s.eng.rounds .ceRound ++ [.ceFold]) s = .next t ∧
      exec .ceBlock s = .next (t.withEng { t.eng with phase := if s.eng.term then .format else .assemble })

/-- R200: the next HashState is a function of the state words and the block (and the variant); `CE.BLOCK` writes nothing but `H`,
the scratch registers and `PHASE`. -/
def Obligations.CompressionIsAFunctionOfStateAndBlock : Prop :=
  ∀ s₁ s₂ : State, s₁.eng.blockEnabled = true → s₂.eng.blockEnabled = true →
    s₁.eng.name = s₂.eng.name → s₁.eng.h = s₂.eng.h →
    (∀ i : Fin 128, i.val < s₁.eng.blockSize → s₁.eng.blk[i] = s₂.eng.blk[i]) →
    ∃ (h : Vector Word 8) (v₁ v₂ : Vars) (w₁ w₂ : Vector Word 80) (t₁ t₂ : BitVec 7) (p₁ p₂ : Phase),
      exec .ceBlock s₁ = .next (s₁.withEng { s₁.eng with h := h, vars := v₁, w := w₁, t := t₁, phase := p₁ }) ∧
      exec .ceBlock s₂ = .next (s₂.withEng { s₂.eng with h := h, vars := v₂, w := w₂, t := t₂, phase := p₂ })

/-! ## DigestFormatter -/

/-- R221, R222, R69: `DF.RAW` writes byte `k` of the digest from byte `k mod WB` of word `k div WB`, the most significant first, and
zeros after `DLEN` bytes. -/
def Obligations.RawDigestIsBigEndianTruncated : Prop :=
  ∀ (s : State) (wb dlen : Nat),
    (s.eng.name, wb, dlen) ∈ ([(.v224, 4, 28), (.v256, 4, 32), (.v384, 8, 48), (.v512, 8, 64), (.v512t224, 8, 28),
      (.v512t256, 8, 32)] : List (Variant × Nat × Nat)) →
    ∃ dbuf : Vector Byte 64, exec .dfRaw s = .next (s.withEng { s.eng with dbuf := dbuf }) ∧
      ∀ k : Fin 64,
        (k.val < dlen → ∃ x, s.eng.h[k.val / wb]? = some x ∧ dbuf[k] = x.extractLsb' (8 * (wb - 1 - k.val % wb)) 8) ∧
        (dlen ≤ k.val → dbuf[k] = 0x00#8)

/-- R224, R225: `DF.TEXT` returns (log 2) two lowercase hexadecimal digits for each digest byte and a zero byte. -/
def Obligations.TextIsLowercaseHex : Prop :=
  ∀ s : State, ∃ txt : List Byte, exec .dfText s = .next (s.returning (.bytes txt)) ∧
    txt.length = 2 * s.eng.digestLength + 1 ∧ txt[2 * s.eng.digestLength]? = some 0x00#8 ∧
    ∀ k, k < s.eng.digestLength → ∃ b, s.eng.dbuf[k]? = some b ∧
      txt[2 * k]?.map BitVec.toNat = ("0123456789abcdef".toList[b.toNat / 16]?).map Char.toNat ∧
      txt[2 * k + 1]?.map BitVec.toNat = ("0123456789abcdef".toList[b.toNat % 16]?).map Char.toNat

/-- R226: where `DF.ROUTE` puts the raw digest, by `STAGE` and `TEXT`; the text is that of R224, by R227 the raw bytes re-hexed. -/
def Obligations.RouteByStage : Prop :=
  ∀ s : State,
    (s.eng.stage = .derivekey → ∃ kb : Vector Byte 128,
      exec .dfRoute s = .next (s.withEng { s.eng with keyblk := kb }) ∧
      ∀ i : Fin 128, (i.val < s.eng.digestLength → s.eng.dbuf[i.val]? = some kb[i]) ∧
        (s.eng.digestLength ≤ i.val → kb[i] = 0x00#8)) ∧
    (s.eng.stage = .inner → exec .dfRoute s = .next (s.withEng { s.eng with innerd := s.eng.dbuf })) ∧
    (s.eng.stage = .outer ∨ s.eng.stage = .plain → ∃ ob : Vector Byte 256,
      exec .dfRoute s = .next (s.withEng { s.eng with
        obuf := ob
        olen := BitVec.ofNat 8 (if s.eng.text then 2 * s.eng.digestLength + 1 else s.eng.digestLength)
        rlen := BitVec.ofNat 4 s.eng.digestWordCount
        dlen := BitVec.ofNat 7 s.eng.digestLength }) ∧
      (s.eng.text = false → ∀ i : Fin 256, (i.val < s.eng.digestLength → s.eng.dbuf[i.val]? = some ob[i]) ∧
        (s.eng.digestLength ≤ i.val → ob[i] = 0x00#8)) ∧
      (s.eng.text = true → ∀ i : Fin 256, (i.val < 2 * s.eng.digestLength → ∃ b, s.eng.dbuf[i.val / 2]? = some b ∧
          some ob[i].toNat = ("0123456789abcdef".toList[if i.val % 2 = 0 then b.toNat / 16 else b.toNat % 16]?).map Char.toNat) ∧
        (2 * s.eng.digestLength ≤ i.val → ob[i] = 0x00#8)))

/-! ## HmacComposer -/

/-- R236: `HM.DERIVEKEY` selects the key stream and, strictly by length, hashing or copying. Its start from a stage that is not
busy only is log 10. -/
def Obligations.DeriveKeySelectsPath : Prop :=
  ∀ s : State, s.eng.busy = false → exec .hmDerivekey s = .next (s.withEng { s.eng with
    stage := .derivekey, src := .key, srcLen := s.eng.klen, rcvd := 0, ra := [], injv := false
    phase := if s.eng.klen.toNat > s.eng.blockSize then .init else .keycopy })

/-- R237: `HM.KEYCOPY` takes the `KLEN` key bytes and pads them with zeros; until they are there it waits (R18). That it answers the
unchanged state while it waits is the model's reading (log 8). Past the 128 bytes of `KEYBLK` no key byte is kept (log 29). -/
def Obligations.KeyCopyPadsWithZeros : Prop :=
  ∀ s : State, s.eng.stage = .derivekey → s.eng.phase = .keycopy → (s.eng.src = .innerd → s.eng.srcLen.toNat ≤ 64) →
    (s.eng.srcAvail < s.eng.klen.toNat → exec .hmKeycopy s = .next s) ∧
    (s.eng.klen.toNat ≤ s.eng.srcAvail → ∃ kb : Vector Byte 128,
      exec .hmKeycopy s = .next (s.withEng { s.eng.srcTaken s.eng.klen.toNat with
        keyblk := kb, stage := .buildpads, phase := .init }) ∧
      ∀ i : Fin 128, (i.val < s.eng.klen.toNat → (s.eng.srcBytes s.eng.klen.toNat)[i.val]? = some kb[i]) ∧
        (s.eng.klen.toNat ≤ i.val → kb[i] = 0x00#8))

/-- R238: `HM.KEYHASH` takes the raw digest as the key. R242: `HM.DONE` is `DF.ROUTE`'s third case, then `STAGE <- DONE`. -/
def Obligations.KeyHashAndDone : Prop :=
  (∀ s : State, s.eng.stage = .derivekey → s.eng.phase = .format → ∃ kb : Vector Byte 128,
    exec .hmKeyhash s = .next (s.withEng { s.eng with keyblk := kb, stage := .buildpads, phase := .init }) ∧
    ∀ i : Fin 128, (i.val < s.eng.digestLength → s.eng.dbuf[i.val]? = some kb[i]) ∧
      (s.eng.digestLength ≤ i.val → kb[i] = 0x00#8)) ∧
  (∀ s : State, s.eng.stage = .outer → s.eng.phase = .format → ∃ t, exec .dfRoute s = .next t ∧
    exec .hmDone s = .next (t.withEng { t.eng with stage := .done }))

/-- R239: `HM.BUILDPADS` builds the two pads over the whole block and starts the inner run. That `IBLK` keeps its bytes from `B` on
is the model's reading (log 20). -/
def Obligations.BuildPadsXorsKey : Prop :=
  ∀ s : State, s.eng.stage = .buildpads → s.eng.phase = .init → ∃ ikb okb iblk : Vector Byte 128,
    exec .hmBuildpads s = .next (s.withEng { s.eng with
      ikb := ikb, okb := okb, iblk := iblk, injv := true, stage := .inner, phase := .init
      src := .msg, srcLen := s.eng.mlen, rcvd := 0, ra := [] }) ∧
    ∀ i : Fin 128,
      ikb[i] = (if i.val < s.eng.blockSize then s.eng.keyblk[i] ^^^ 0x36#8 else 0x00#8) ∧
      okb[i] = (if i.val < s.eng.blockSize then s.eng.keyblk[i] ^^^ 0x5c#8 else 0x00#8) ∧
      iblk[i] = (if i.val < s.eng.blockSize then ikb[i] else s.eng.iblk[i])

/-- R241: `HM.OUTER` makes the inner digest the source of the outer run and injects the outer pad. That `IBLK` keeps its
bytes from `B` on is the model's reading (log 20). -/
def Obligations.OuterRunStartsFromInnerDigest : Prop :=
  ∀ s : State, s.eng.stage = .inner → s.eng.phase = .format → ∃ iblk : Vector Byte 128,
    exec .hmOuter s = .next (s.withEng { s.eng with
      innerd := s.eng.dbuf, stage := .outer, src := .innerd, srcLen := BitVec.ofNat 64 s.eng.digestLength, ipos := 0
      iblk := iblk, injv := true, phase := .init }) ∧
    ∀ i : Fin 128, iblk[i] = if i.val < s.eng.blockSize then s.eng.okb[i] else s.eng.iblk[i]

/-! ## Sequencer -/

/-- R259: `DR.INIT` loads the initial vector and the counters. -/
def Obligations.RunInitLoadsVector : Prop :=
  ∀ s : State, s.eng.stage ∈ [Stage.derivekey, .inner, .outer, .plain] → s.eng.phase = .init →
    ∃ total : BitVec 65, total.toNat = s.eng.srcLen.toNat ∧
      exec .drInit s = .next (s.withEng { s.eng with
        h := iv s.eng.name, total := total, consumed := 0, term := false, phase := .assemble })

/-- R260, R240: `DR.LOOP` and `HM.INNER` name runs of steps. `DR.LOOP` is `BA.NEXT` and `CE.BLOCK` steps until neither is enabled;
`HM.INNER` is `DR.INIT` and then the loop, or the loop alone once the run has started. That they run at once as far as the bytes
at hand allow is log 17; that `HM.INNER` in another stage, and a step that is not enabled, answer the unchanged state is log 8. -/
def Obligations.NamedRunsAreTheirSteps : Prop :=
  (∀ s : State, (s.eng.src = .innerd → s.eng.srcLen.toNat ≤ 64) → ∃ (is : List Instr) (t : State),
    (∀ i ∈ is, i = .baNext ∨ i = .ceBlock) ∧ execAll is s = .next t ∧ exec .drLoop s = .next t ∧
    exec .baNext t = .next t ∧ exec .ceBlock t = .next t) ∧
  (∀ s : State, s.eng.stage = .inner → ∃ t, exec .hmInner s = .next t ∧
    (if s.eng.phase = .init then execAll [.drInit, .drLoop] s else exec .drLoop s) = .next t) ∧
  (∀ s : State, s.eng.stage ≠ .inner → exec .hmInner s = .next s)

/-- R261: `DR.END` is `DF.RAW`, `DF.ROUTE` and the hand-over by `STAGE`, in one step. -/
def Obligations.RunEndHandsOver : Prop :=
  ∀ s : State, s.eng.phase = .format →
    (s.eng.stage = .derivekey → exec .drEnd s = execAll [.dfRaw, .dfRoute, .hmKeyhash] s) ∧
    (s.eng.stage = .inner → exec .drEnd s = execAll [.dfRaw, .dfRoute, .hmOuter] s) ∧
    (s.eng.stage = .outer → exec .drEnd s = execAll [.dfRaw, .dfRoute, .hmDone] s) ∧
    (s.eng.stage = .plain → ∃ t, execAll [.dfRaw, .dfRoute] s = .next t ∧
      exec .drEnd s = .next (t.withEng { t.eng with stage := .done })) ∧
    (s.eng.stage ∈ [Stage.derivekey, .inner, .outer, .plain] → ∃ t, exec .drEnd s = .next t ∧
      (s.eng.stage, t.eng.stage) ∈ [(Stage.derivekey, Stage.buildpads), (.inner, .outer), (.outer, .done), (.plain, .done)])

/-- R262: the (STAGE, PHASE) pairs an engine step leads to. With no packet queued (log 1) a step stays where it is (log 8) or moves by
the table. -/
def Obligations.SequencerFollowsTransitionTable : Prop :=
  ∀ s t : State, s.sched = [] → step s = .next t →
    t = s ∨ ((s.eng.stage, s.eng.phase), (t.eng.stage, t.eng.phase)) ∈
      ([((Stage.derivekey, Phase.keycopy), (Stage.buildpads, Phase.init)), ((.derivekey, .init), (.derivekey, .assemble)),
       ((.derivekey, .assemble), (.derivekey, .compress)), ((.derivekey, .compress), (.derivekey, .assemble)),
       ((.derivekey, .compress), (.derivekey, .format)), ((.derivekey, .format), (.buildpads, .init)),
       ((.buildpads, .init), (.inner, .init)), ((.inner, .init), (.inner, .assemble)),
       ((.inner, .assemble), (.inner, .compress)), ((.inner, .compress), (.inner, .assemble)),
       ((.inner, .compress), (.inner, .format)), ((.inner, .format), (.outer, .init)),
       ((.outer, .init), (.outer, .assemble)), ((.outer, .assemble), (.outer, .compress)),
       ((.outer, .compress), (.outer, .assemble)), ((.outer, .compress), (.outer, .format)),
       ((.outer, .format), (.done, .format)), ((.plain, .init), (.plain, .assemble)),
       ((.plain, .assemble), (.plain, .compress)), ((.plain, .compress), (.plain, .assemble)),
       ((.plain, .compress), (.plain, .format)), ((.plain, .format), (.done, .format))] :
        List ((Stage × Phase) × Stage × Phase))

/-! ## Errors and reset -/

/-- R300, R296, R297: error entry zeroes everything but `MSGLEN` and `KEYLEN` and records the kind alone; `STATUS` then reads
0x00000704. -/
def Obligations.ErrorEntryClearsAndRecordsKind : Prop :=
  ∀ (s : State) (k : ErrorKind), ∃ e : Engine, exec (.errEnter k) s = .next (s.withEng e) ∧
    e = { Engine.reset with stage := .error, err := some k, msgLen := s.eng.msgLen, keyLen := s.eng.keyLen } ∧
    e.statusWord = 0x00000704#32 ∧ e.want = 0 ∧ e.req = 0#2 ∧ e.busy = false ∧
    (k, e.errWord) ∈ ([(.unknownVariant, 1), (.sourceOpenError, 2), (.sourceReadError, 3), (.keySourceError, 4),
      (.badCommand, 5)] : List (ErrorKind × BitVec 32))

/-- R320, R44: reset zeroes every register, `MSGLEN` and `KEYLEN` included, and empties the window. -/
def Obligations.ResetZeroesEverything : Prop :=
  ∀ s : State, ∃ e : Engine, exec .reset s = .next (s.withEng e) ∧ e = State.reset.eng ∧
    e.stage = .idle ∧ e.phase = .init ∧ e.t = 0 ∧ e.h = Vector.replicate 8 0 ∧ e.vars = ⟨0, 0, 0, 0, 0, 0, 0, 0⟩ ∧
    e.w = Vector.replicate 80 0 ∧ e.blk = Vector.replicate 128 0 ∧ e.iblk = Vector.replicate 128 0 ∧
    e.keyblk = Vector.replicate 128 0 ∧ e.ikb = Vector.replicate 128 0 ∧ e.okb = Vector.replicate 128 0 ∧
    e.dbuf = Vector.replicate 64 0 ∧ e.innerd = Vector.replicate 64 0 ∧ e.obuf = Vector.replicate 256 0 ∧
    e.term = false ∧ e.injv = false ∧ e.oph = false ∧ e.text = false ∧ e.name = .v224 ∧ e.w64 = false ∧
    e.msgLen = 0 ∧ e.keyLen = 0 ∧ e.mlen = 0 ∧ e.klen = 0 ∧ e.total = 0 ∧ e.consumed = 0 ∧ e.rcvd = 0 ∧ e.srcLen = 0 ∧
    e.ipos = 0 ∧ e.src = .none ∧ e.ra = [] ∧ e.err = none ∧ e.rlen = 0 ∧ e.dlen = 0 ∧ e.olen = 0 ∧
    e.statusWord = 0x00000000#32 ∧ e.errWord = 0#32 ∧ e.want = 0

/-- R290: no engine step raises anything; the other operations of a computation raise nothing either. -/
def Obligations.EngineStepsNeverRaise : Prop :=
  ∀ (i : Instr) (s t : State), i ∈ [Instr.hmKeycopy, .hmBuildpads, .drInit, .baNext, .ceBlock, .drEnd] → exec i s = .next t →
    t.eng.err = s.eng.err ∧ (t.eng.stage = .error ↔ s.eng.stage = .error) ∧
    t.eng.msgLen = s.eng.msgLen ∧ t.eng.keyLen = s.eng.keyLen ∧ t.eng.mlen = s.eng.mlen ∧ t.eng.klen = s.eng.klen ∧
    t.eng.rcvd = (if i = .hmBuildpads then t.eng.rcvd else s.eng.rcvd) ∧ t.sched = s.sched ∧ t.out = s.out

/-! ## Commands -/

/-- R256, R298, R330: a busy engine ignores the write whole; then a reserved bit raises `BadCommand`, then a pair that names no
variant raises `UnknownVariant`; any other word runs the command it spells. Raising leaves the state of R300. -/
def Obligations.CommandWordsInPriority : Prop :=
  ∀ (s : State) (v : BitVec 32),
    (s.eng.busy = true → exec (.wrCmd v) s = .next s) ∧
    (s.eng.busy = false → v &&& 0xFFFFFF0C#32 ≠ 0#32 →
      exec (.wrCmd v) s = .next (s.withEng (s.eng.enterError .badCommand))) ∧
    (s.eng.busy = false → v &&& 0xFFFFFF0C#32 = 0#32 →
      ((v.extractLsb' 4 3).toNat, v.getLsbD 7) ∉ [(0, false), (1, false), (2, true), (3, true), (4, true), (5, true)] →
      exec (.wrCmd v) s = .next (s.withEng (s.eng.enterError .unknownVariant))) ∧
    (s.eng.busy = false → v &&& 0xFFFFFF0C#32 = 0#32 →
      exec (.wrCmd v) s = exec (if v.getLsbD 0 then .hmac (v.getLsbD 1) (v.extractLsb' 4 3) (v.getLsbD 7)
        else .digest (v.getLsbD 1) (v.extractLsb' 4 3) (v.getLsbD 7)) s)

/-- R257: what `DIGEST` starts, from the cleared engine of R256 step 1. -/
def Obligations.DigestStartsPlainRun : Prop :=
  ∀ (s : State) (text : Bool) (n : BitVec 3) (w : Bool) (v : Variant), s.eng.busy = false →
    (n.toNat, w, v) ∈ ([(0, false, .v224), (1, false, .v256), (2, true, .v384), (3, true, .v512),
      (4, true, .v512t224), (5, true, .v512t256)] : List (Nat × Bool × Variant)) →
    exec (.digest text n w) s = .next (s.withEng { Engine.reset with
      stage := .plain, phase := .init, src := .msg, srcLen := s.eng.msgLen, oph := false, text := text, name := v, w64 := w
      msgLen := s.eng.msgLen, keyLen := s.eng.keyLen, mlen := s.eng.msgLen, klen := s.eng.keyLen })

/-- R258, R236: what `HMAC` starts; a key longer than one block (64 bytes, 128 where W64 is set) is hashed, any other copied. -/
def Obligations.HmacStartsKeyDerivation : Prop :=
  ∀ (s : State) (text : Bool) (n : BitVec 3) (w : Bool) (v : Variant), s.eng.busy = false →
    (n.toNat, w, v) ∈ ([(0, false, .v224), (1, false, .v256), (2, true, .v384), (3, true, .v512),
      (4, true, .v512t224), (5, true, .v512t256)] : List (Nat × Bool × Variant)) →
    exec (.hmac text n w) s = .next (s.withEng { Engine.reset with
      stage := .derivekey
      phase := if s.eng.keyLen.toNat > (if w then 128 else 64) then .init else .keycopy
      src := .key, srcLen := s.eng.keyLen, oph := true, text := text, name := v, w64 := w
      msgLen := s.eng.msgLen, keyLen := s.eng.keyLen, mlen := s.eng.msgLen, klen := s.eng.keyLen })

/-- R20, R321: an accepted command's result depends on nothing an earlier computation left but `MSGLEN` and `KEYLEN`. -/
def Obligations.AcceptedCommandForgetsThePast : Prop :=
  ∀ (s₁ s₂ : State) (v : BitVec 32), s₁.eng.busy = false → s₂.eng.busy = false →
    s₁.eng.msgLen = s₂.eng.msgLen → s₁.eng.keyLen = s₂.eng.keyLen →
    ∃ e, exec (.wrCmd v) s₁ = .next (s₁.withEng e) ∧ exec (.wrCmd v) s₂ = .next (s₂.withEng e)

/-! ## Host register accesses -/

/-- R73: `WR.DIN` appends the byte when `WANT > 0`, and has no effect otherwise; `WANT > 0` is R42's. -/
def Obligations.DinAppendsWhenWanted : Prop :=
  ∀ (s : State) (v : BitVec 32),
    (s.eng.req ≠ 0#2 → s.eng.ra.length < Config.raBytes → s.eng.rcvd.toNat < s.eng.srcLen.toNat →
      exec (.wrDin v) s = .next (s.withEng { s.eng with
        ra := s.eng.ra ++ [v.extractLsb' 0 8], rcvd := s.eng.rcvd + 1 })) ∧
    (s.eng.req = 0#2 ∨ Config.raBytes ≤ s.eng.ra.length ∨ s.eng.srcLen.toNat ≤ s.eng.rcvd.toNat →
      exec (.wrDin v) s = .next s)

/-- R75: the error a `WR.DINCTL` raises, or none. -/
def Obligations.DinctlRaisesByPriority : Prop :=
  ∀ (s : State) (v : BitVec 32),
    (s.eng.req = 0#2 → exec (.wrDinctl v) s = .next s) ∧
    (s.eng.req = 1#2 → (v.getLsbD 0 || v.getLsbD 1 || v.getLsbD 2) = true →
      exec (.wrDinctl v) s = .next (s.withEng (s.eng.enterError .keySourceError))) ∧
    (s.eng.req = 2#2 → v.getLsbD 2 = true → s.eng.rcvd = 0 →
      exec (.wrDinctl v) s = .next (s.withEng (s.eng.enterError .sourceOpenError))) ∧
    (s.eng.req = 2#2 → v.getLsbD 2 = true → s.eng.rcvd ≠ 0 →
      exec (.wrDinctl v) s = .next (s.withEng (s.eng.enterError .sourceReadError))) ∧
    (s.eng.req = 2#2 → v.getLsbD 2 = false → (v.getLsbD 0 || v.getLsbD 1) = true →
      exec (.wrDinctl v) s = .next (s.withEng (s.eng.enterError .sourceReadError))) ∧
    ((v.getLsbD 0 || v.getLsbD 1 || v.getLsbD 2) = false → exec (.wrDinctl v) s = .next s)

/-- R264, R99: a write stores one half and leaves the other; a read returns (log 2) the half as last written. -/
def Obligations.LengthRegistersReadBackAsWritten : Prop :=
  (∀ (s : State) (v : BitVec 32), ∃ x : BitVec 64,
    exec (.wrMsglenLo v) s = .next (s.withEng { s.eng with msgLen := x }) ∧
    x.toNat = s.eng.msgLen.toNat / 2 ^ 32 * 2 ^ 32 + v.toNat) ∧
  (∀ (s : State) (v : BitVec 32), ∃ x : BitVec 64,
    exec (.wrMsglenHi v) s = .next (s.withEng { s.eng with msgLen := x }) ∧
    x.toNat = v.toNat * 2 ^ 32 + s.eng.msgLen.toNat % 2 ^ 32) ∧
  (∀ (s : State) (v : BitVec 32), ∃ x : BitVec 64,
    exec (.wrKeylenLo v) s = .next (s.withEng { s.eng with keyLen := x }) ∧
    x.toNat = s.eng.keyLen.toNat / 2 ^ 32 * 2 ^ 32 + v.toNat) ∧
  (∀ (s : State) (v : BitVec 32), ∃ x : BitVec 64,
    exec (.wrKeylenHi v) s = .next (s.withEng { s.eng with keyLen := x }) ∧
    x.toNat = v.toNat * 2 ^ 32 + s.eng.keyLen.toNat % 2 ^ 32) ∧
  (∀ s : State,
    exec .rdMsglenLo s = .next (s.returning (.bus (BitVec.ofNat 32 (s.eng.msgLen.toNat % 2 ^ 32)))) ∧
    exec .rdMsglenHi s = .next (s.returning (.bus (BitVec.ofNat 32 (s.eng.msgLen.toNat / 2 ^ 32)))) ∧
    exec .rdKeylenLo s = .next (s.returning (.bus (BitVec.ofNat 32 (s.eng.keyLen.toNat % 2 ^ 32)))) ∧
    exec .rdKeylenHi s = .next (s.returning (.bus (BitVec.ofNat 32 (s.eng.keyLen.toNat / 2 ^ 32)))))

/-- R263, R96 to R98, R102, R42: what `RD.STATUS`, `RD.ERR`, `RD.WANT`, `RD.RLEN`, `RD.DLEN` and `RD.OLEN` return (log 2); nothing
else changes. Where a difference would be negative (in no reachable state) it counts as 0. -/
def Obligations.StatusRegistersReadDerivedSignals : Prop :=
  ∀ (s : State) (req : Nat),
    req = (if s.eng.stage = .derivekey ∧ s.eng.rcvd.toNat < s.eng.klen.toNat then 1
      else if (s.eng.stage = .inner ∨ s.eng.stage = .plain) ∧ s.eng.rcvd.toNat < s.eng.mlen.toNat then 2 else 0) →
    (∃ v : BitVec 32, exec .rdStatus s = .next (s.returning (.bus v)) ∧
      v.toNat = (if s.eng.stage ∈ [Stage.derivekey, .buildpads, .inner, .outer, .plain] then 1 else 0) +
        (if s.eng.stage = .done then 2 else 0) + (if s.eng.stage = .error then 4 else 0) + 8 * req +
        256 * [Stage.idle, .derivekey, .buildpads, .inner, .outer, .done, .plain, .error].idxOf s.eng.stage) ∧
    (∃ v : BitVec 32, exec .rdErr s = .next (s.returning (.bus v)) ∧
      v.toNat = [none, some ErrorKind.unknownVariant, some .sourceOpenError, some .sourceReadError, some .keySourceError,
        some .badCommand].idxOf s.eng.err) ∧
    (∃ v : BitVec 32, exec .rdWant s = .next (s.returning (.bus v)) ∧
      v.toNat = if req = 0 then 0
        else min (min (Config.raBytes - s.eng.ra.length) (s.eng.srcLen.toNat - s.eng.rcvd.toNat)) (2 ^ 32 - 1)) ∧
    (∃ v : BitVec 32, exec .rdRlen s = .next (s.returning (.bus v)) ∧ v.toNat = s.eng.rlen.toNat) ∧
    (∃ v : BitVec 32, exec .rdDlen s = .next (s.returning (.bus v)) ∧ v.toNat = s.eng.dlen.toNat) ∧
    (∃ v : BitVec 32, exec .rdOlen s = .next (s.returning (.bus v)) ∧ v.toNat = s.eng.olen.toNat)

/-- R267, R62: a read of `OBUF` word `i` returns (log 2) its four bytes, the lowest-numbered in bits [7:0]. R265: a null read
returns 0 and a null write changes nothing. -/
def Obligations.OutputAndNullAccesses : Prop :=
  (∀ (s : State) (i : BitVec 6), ∃ v : BitVec 32, exec (.rdObuf i) s = .next (s.returning (.bus v)) ∧
    ∀ k, k < 4 → s.eng.obuf[4 * i.toNat + k]? = some (v.extractLsb' (8 * k) 8)) ∧
  (∀ (s : State) (off : BitVec 9), exec (.busNull (.read off)) s = .next (s.returning (.bus 0#32))) ∧
  (∀ (s : State) (off : BitVec 9) (v : BitVec 32), exec (.busNull (.write off v)) s = .next s)

/-- R309, R341, R21 to R28: what a host read returns depends on `STAGE`, `ERR`, the lengths, the received counts, the window's size
and the result registers alone: hash state, schedule, blocks, key blocks, digests and counters cannot be read. That a value
read stands in `out` is log 2. -/
def Obligations.HostReadsHideInternalState : Prop :=
  ∀ (i : Instr) (s₁ s₂ : State),
    (i ∈ [Instr.rdStatus, .rdErr, .rdWant, .rdMsglenLo, .rdMsglenHi, .rdKeylenLo, .rdKeylenHi, .rdRlen, .rdDlen, .rdOlen] ∨
      (∃ k, i = .rdObuf k) ∨ ∃ off, i = .busNull (.read off)) →
    s₁.eng.stage = s₂.eng.stage → s₁.eng.err = s₂.eng.err → s₁.eng.rcvd = s₂.eng.rcvd → s₁.eng.srcLen = s₂.eng.srcLen →
    s₁.eng.klen = s₂.eng.klen → s₁.eng.mlen = s₂.eng.mlen → s₁.eng.msgLen = s₂.eng.msgLen → s₁.eng.keyLen = s₂.eng.keyLen →
    s₁.eng.ra.length = s₂.eng.ra.length → s₁.eng.rlen = s₂.eng.rlen → s₁.eng.dlen = s₂.eng.dlen →
    s₁.eng.olen = s₂.eng.olen → s₁.eng.obuf = s₂.eng.obuf →
    ∃ o, exec i s₁ = .next (s₁.returning o) ∧ exec i s₂ = .next (s₂.returning o)

/-! ## Whole machine -/

/-- R45, R21 to R24, R262: every step of an agent keeps the invariant, from every state that meets it. -/
def Obligations.InvariantIsKept : Prop :=
  ∀ s t : State, s.Inv → step s = .next t → t.Inv

/-- The invariant holds after reset. -/
def Obligations.InvariantHoldsAtReset : Prop := State.reset.Inv

/-- R268, R301, R226: IDLE, DONE and ERROR are resting states: until a command is accepted or reset occurs, no agent's step changes
anything of the engine but `MSGLEN` and `KEYLEN`. That an engine step that is not enabled answers the unchanged state is log 8. -/
def Obligations.RestingStatesStay : Prop :=
  ∀ (i : Instr) (s t : State), s.eng.stage ∈ [Stage.idle, .done, .error] → i.isAgentStep = true → exec i s = .next t →
    (∀ v, i ≠ .wrCmd v) → (∀ a b c, i ≠ .digest a b c) → (∀ a b c, i ≠ .hmac a b c) → i ≠ .reset →
    t.eng = { s.eng with msgLen := t.eng.msgLen, keyLen := t.eng.keyLen }

/-- R174, R255, R270: a busy engine either moves or asks the host for bytes it has room for; the outer run never waits (R262). That a
step with no packet queued is the engine's is the model's choice (log 1), and that a waiting one answers the unchanged state its
reading (log 8). -/
def Obligations.WaitingEngineWantsBytes : Prop :=
  ∀ s : State, s.eng.Inv → s.eng.busy = true → s.sched = [] →
    (∃ t, step s = .next t ∧ (t.eng.stage, t.eng.phase) ≠ (s.eng.stage, s.eng.phase)) ∨
    (step s = .next s ∧ s.eng.req ≠ 0#2 ∧ 0 < s.eng.want ∧ s.eng.stage ∈ [Stage.derivekey, .inner, .plain])

/-- R269, R80: delivering a byte and the enabled engine step commute: in either order the same state results, so the result does
not depend on how the host's writes interleave with the engine. An enabled step is one that does not answer the unchanged state
(log 8). -/
def Obligations.DeliveryCommutesWithEngineSteps : Prop :=
  ∀ (s : State) (i : Instr) (v : BitVec 32), s.eng.Inv → s.eng.candidate = some i → 0 < s.eng.want → exec i s ≠ .next s →
    ∃ t, execAll [i, .wrDin v] s = .next t ∧ execAll [.wrDin v, i] s = .next t

/-- R270, R185: a plain digest whose message has been delivered reaches DONE after `2 + 2 * blocks` engine steps, where `blocks` is
`ceil((SRCLEN + 1 + LF) / B)`. Its message has been delivered before the run starts, so it fits the window. That a step with no
packet queued is the engine's is the model's choice (log 1). -/
def Obligations.DeliveredDigestCompletes : Prop :=
  ∀ (s : State) (blocks : Nat), s.eng.Inv → s.sched = [] → s.eng.stage = .plain → s.eng.phase = .init →
    s.eng.rcvd = s.eng.mlen →
    blocks = (s.eng.mlen.toNat + 1 + s.eng.lenField + s.eng.blockSize - 1) / s.eng.blockSize →
    ∃ t, steps (2 + 2 * blocks) s = .next t ∧ t.eng.stage = .done
end

