-- ==== Sys2Proof/Laws/Bytes.lean ====
section
/-! SUPPORT. What the byte-order, buffer and field helpers do, one lemma each. -/

namespace Sys2Proof

/-! ## Little-endian numbers -/

@[simp] theorem leBytes_length (k v : Nat) : (leBytes k v).length = k := by
  induction k generalizing v with
  | zero => rfl
  | succ k ih => simp [leBytes, ih]

theorem leNat_lt (bs : List Byte) : leNat bs < 256 ^ bs.length := by
  induction bs with
  | nil => simp [leNat]
  | cons b bs ih =>
    have hb : b.toNat < 256 := b.isLt
    simp only [leNat, List.length_cons, pow_succ]
    omega

theorem leNat_leBytes (k v : Nat) : leNat (leBytes k v) = v % 256 ^ k := by
  induction k generalizing v with
  | zero => simp [leBytes, leNat, Nat.mod_one]
  | succ k ih =>
    have h : v % 256 ^ (k + 1) = v % 256 + 256 * (v / 256 % 256 ^ k) := by rw [Nat.pow_succ', Nat.mod_mul]
    simp only [leBytes, leNat, ih, h, BitVec.toNat_ofNat]

theorem leBytes_leNat (bs : List Byte) : leBytes bs.length (leNat bs) = bs := by
  induction bs with
  | nil => rfl
  | cons b bs ih =>
    have hb : b.toNat < 256 := b.isLt
    have h1 : BitVec.ofNat 8 (b.toNat + 256 * leNat bs) = b := by
      apply BitVec.eq_of_toNat_eq
      simp only [BitVec.toNat_ofNat]
      omega
    have h2 : (b.toNat + 256 * leNat bs) / 256 = leNat bs := by omega
    simp only [List.length_cons, leBytes, leNat, h1, h2, ih]

/-- Reading back the bytes of a number. -/
theorem takeLE_leBytes (k v : Nat) (rest : List Byte) :
    takeLE k (leBytes k v ++ rest) = some (v % 256 ^ k, rest) := by
  simp [takeLE, leNat_leBytes]

/-- There is nothing to read when bytes are missing. -/
theorem takeLE_short {k : Nat} {bs : List Byte} (h : bs.length < k) : takeLE k bs = none := by
  simp [takeLE, h]

namespace Machine

/-! ## Big-endian numbers -/

@[simp] theorem beBytes_length (k v : Nat) : (beBytes k v).length = k := by simp [beBytes]

theorem beNat_lt (bs : List Byte) : beNat bs < 256 ^ bs.length := by
  simpa [beNat] using leNat_lt bs.reverse

theorem beNat_beBytes (k v : Nat) : beNat (beBytes k v) = v % 256 ^ k := by
  simp [beNat, beBytes, leNat_leBytes]

/-! ## Buffers -/

/-- A byte of an overwritten buffer: the list's where it reaches, the old one after it. -/
theorem overwrite_get {n : Nat} (buf : Vector Byte n) (l : List Byte) (i : Nat) (h : i < n) :
    (overwrite buf l)[i] = l.getD i buf[i] := by simp [overwrite]

/-- A byte of a zero-filled buffer: the list's where it reaches, zero after it. -/
theorem zeroFilled_get (n : Nat) (l : List Byte) (i : Nat) (h : i < n) :
    (zeroFilled n l)[i] = l.getD i 0 := by simp [zeroFilled]

theorem slice_length {n : Nat} (buf : Vector Byte n) (i k : Nat) : (slice buf i k).length = min k (n - i) := by
  simp [slice]

/-- A byte of a slice. -/
theorem slice_getD {n : Nat} (buf : Vector Byte n) (i k j : Nat) (hj : j < k) (h : i + j < n) (d : Byte) :
    (slice buf i k).getD j d = buf[i + j] := by
  have hl : j < (slice buf i k).length := by rw [slice_length]; omega
  simp [slice, List.getD_eq_getElem?_getD, hj, List.getElem?_drop, h]

/-! ## Register halves -/

@[simp] theorem lowHalf_setLow (x : BitVec 64) (v : BitVec 32) : lowHalf (setLow x v) = v := by
  simp only [lowHalf, setLow]
  apply BitVec.eq_of_getLsbD_eq
  intro i hi
  simp only [BitVec.getLsbD_extractLsb', hi, decide_true, Bool.true_and]
  erw [BitVec.getLsbD_append]
  simp [hi]

@[simp] theorem highHalf_setLow (x : BitVec 64) (v : BitVec 32) : highHalf (setLow x v) = highHalf x := by
  simp only [highHalf, setLow]
  apply BitVec.eq_of_getLsbD_eq
  intro i hi
  simp only [BitVec.getLsbD_extractLsb', hi, decide_true, Bool.true_and]
  erw [BitVec.getLsbD_append]
  simp [hi]

@[simp] theorem highHalf_setHigh (x : BitVec 64) (v : BitVec 32) : highHalf (setHigh x v) = v := by
  simp only [highHalf, setHigh]
  apply BitVec.eq_of_getLsbD_eq
  intro i hi
  simp only [BitVec.getLsbD_extractLsb', hi, decide_true, Bool.true_and]
  erw [BitVec.getLsbD_append]
  simp [hi]

@[simp] theorem lowHalf_setHigh (x : BitVec 64) (v : BitVec 32) : lowHalf (setHigh x v) = lowHalf x := by
  simp only [lowHalf, setHigh]
  apply BitVec.eq_of_getLsbD_eq
  intro i hi
  simp only [BitVec.getLsbD_extractLsb', hi, decide_true, Bool.true_and]
  erw [BitVec.getLsbD_append]
  simp [hi]

end Machine

end Sys2Proof
end

