-- ==== Sys2Proof/Laws/State.lean ====
section
/-! SUPPORT. The fields of State and Engine after each shared update, one lemma per field, so that no proof unfolds a record
update. -/

namespace Sys2Proof.Machine

/-! ## State -/

@[simp] theorem State.withEng_eng (s : State) (e : Engine) : (s.withEng e).eng = e := rfl
@[simp] theorem State.withEng_sched (s : State) (e : Engine) : (s.withEng e).sched = s.sched := rfl
@[simp] theorem State.withEng_out (s : State) (e : Engine) : (s.withEng e).out = s.out := rfl
@[simp] theorem State.returning_eng (s : State) (o : Output) : (s.returning o).eng = s.eng := rfl
@[simp] theorem State.returning_sched (s : State) (o : Output) : (s.returning o).sched = s.sched := rfl
@[simp] theorem State.returning_out (s : State) (o : Output) : (s.returning o).out = o := rfl
@[simp] theorem State.withPacket_eng (s : State) (p : Packet) : (s.withPacket p).eng = s.eng := rfl
@[simp] theorem State.withPacket_sched (s : State) (p : Packet) : (s.withPacket p).sched = p :: s.sched := rfl
@[simp] theorem State.withPacket_out (s : State) (p : Packet) : (s.withPacket p).out = s.out := rfl
@[simp] theorem State.withEng_self (s : State) : s.withEng s.eng = s := rfl
@[simp] theorem State.returning_self (s : State) : s.returning s.out = s := rfl
@[simp] theorem State.withEng_withEng (s : State) (e e' : Engine) : (s.withEng e).withEng e' = s.withEng e' := rfl
@[simp] theorem State.returning_returning (s : State) (o o' : Output) : (s.returning o).returning o' = s.returning o' := rfl
@[simp] theorem State.reset_eng : State.reset.eng = Engine.reset := rfl
@[simp] theorem State.reset_sched : State.reset.sched = [] := rfl
@[simp] theorem State.reset_out : State.reset.out = .none := rfl

/-! ## `Engine.reset` (R44) -/

@[simp] theorem Engine.reset_stage : Engine.reset.stage = .idle := rfl
@[simp] theorem Engine.reset_phase : Engine.reset.phase = .init := rfl
@[simp] theorem Engine.reset_t : Engine.reset.t = 0 := rfl
@[simp] theorem Engine.reset_h : Engine.reset.h = Vector.replicate 8 0 := rfl
@[simp] theorem Engine.reset_vars : Engine.reset.vars = Vars.zero := rfl
@[simp] theorem Engine.reset_w : Engine.reset.w = Vector.replicate 80 0 := rfl
@[simp] theorem Engine.reset_blk : Engine.reset.blk = Vector.replicate 128 0 := rfl
@[simp] theorem Engine.reset_iblk : Engine.reset.iblk = Vector.replicate 128 0 := rfl
@[simp] theorem Engine.reset_injv : Engine.reset.injv = false := rfl
@[simp] theorem Engine.reset_keyblk : Engine.reset.keyblk = Vector.replicate 128 0 := rfl
@[simp] theorem Engine.reset_ikb : Engine.reset.ikb = Vector.replicate 128 0 := rfl
@[simp] theorem Engine.reset_okb : Engine.reset.okb = Vector.replicate 128 0 := rfl
@[simp] theorem Engine.reset_dbuf : Engine.reset.dbuf = Vector.replicate 64 0 := rfl
@[simp] theorem Engine.reset_innerd : Engine.reset.innerd = Vector.replicate 64 0 := rfl
@[simp] theorem Engine.reset_total : Engine.reset.total = 0 := rfl
@[simp] theorem Engine.reset_consumed : Engine.reset.consumed = 0 := rfl
@[simp] theorem Engine.reset_ra : Engine.reset.ra = [] := rfl
@[simp] theorem Engine.reset_rcvd : Engine.reset.rcvd = 0 := rfl
@[simp] theorem Engine.reset_src : Engine.reset.src = .none := rfl
@[simp] theorem Engine.reset_srcLen : Engine.reset.srcLen = 0 := rfl
@[simp] theorem Engine.reset_ipos : Engine.reset.ipos = 0 := rfl
@[simp] theorem Engine.reset_term : Engine.reset.term = false := rfl
@[simp] theorem Engine.reset_oph : Engine.reset.oph = false := rfl
@[simp] theorem Engine.reset_text : Engine.reset.text = false := rfl
@[simp] theorem Engine.reset_name : Engine.reset.name = .v224 := rfl
@[simp] theorem Engine.reset_w64 : Engine.reset.w64 = false := rfl
@[simp] theorem Engine.reset_msgLen : Engine.reset.msgLen = 0 := rfl
@[simp] theorem Engine.reset_keyLen : Engine.reset.keyLen = 0 := rfl
@[simp] theorem Engine.reset_mlen : Engine.reset.mlen = 0 := rfl
@[simp] theorem Engine.reset_klen : Engine.reset.klen = 0 := rfl
@[simp] theorem Engine.reset_err : Engine.reset.err = none := rfl
@[simp] theorem Engine.reset_rlen : Engine.reset.rlen = 0 := rfl
@[simp] theorem Engine.reset_dlen : Engine.reset.dlen = 0 := rfl
@[simp] theorem Engine.reset_olen : Engine.reset.olen = 0 := rfl
@[simp] theorem Engine.reset_obuf : Engine.reset.obuf = Vector.replicate 256 0 := rfl

/-! ## `Engine.cleared` (R256 step 1) -/

@[simp] theorem Engine.cleared_stage (e : Engine) : e.cleared.stage = .idle := rfl
@[simp] theorem Engine.cleared_phase (e : Engine) : e.cleared.phase = .init := rfl
@[simp] theorem Engine.cleared_t (e : Engine) : e.cleared.t = 0 := rfl
@[simp] theorem Engine.cleared_h (e : Engine) : e.cleared.h = Vector.replicate 8 0 := rfl
@[simp] theorem Engine.cleared_vars (e : Engine) : e.cleared.vars = Vars.zero := rfl
@[simp] theorem Engine.cleared_w (e : Engine) : e.cleared.w = Vector.replicate 80 0 := rfl
@[simp] theorem Engine.cleared_blk (e : Engine) : e.cleared.blk = Vector.replicate 128 0 := rfl
@[simp] theorem Engine.cleared_iblk (e : Engine) : e.cleared.iblk = Vector.replicate 128 0 := rfl
@[simp] theorem Engine.cleared_injv (e : Engine) : e.cleared.injv = false := rfl
@[simp] theorem Engine.cleared_keyblk (e : Engine) : e.cleared.keyblk = Vector.replicate 128 0 := rfl
@[simp] theorem Engine.cleared_ikb (e : Engine) : e.cleared.ikb = Vector.replicate 128 0 := rfl
@[simp] theorem Engine.cleared_okb (e : Engine) : e.cleared.okb = Vector.replicate 128 0 := rfl
@[simp] theorem Engine.cleared_dbuf (e : Engine) : e.cleared.dbuf = Vector.replicate 64 0 := rfl
@[simp] theorem Engine.cleared_innerd (e : Engine) : e.cleared.innerd = Vector.replicate 64 0 := rfl
@[simp] theorem Engine.cleared_total (e : Engine) : e.cleared.total = 0 := rfl
@[simp] theorem Engine.cleared_consumed (e : Engine) : e.cleared.consumed = 0 := rfl
@[simp] theorem Engine.cleared_ra (e : Engine) : e.cleared.ra = [] := rfl
@[simp] theorem Engine.cleared_rcvd (e : Engine) : e.cleared.rcvd = 0 := rfl
@[simp] theorem Engine.cleared_src (e : Engine) : e.cleared.src = .none := rfl
@[simp] theorem Engine.cleared_srcLen (e : Engine) : e.cleared.srcLen = 0 := rfl
@[simp] theorem Engine.cleared_ipos (e : Engine) : e.cleared.ipos = 0 := rfl
@[simp] theorem Engine.cleared_term (e : Engine) : e.cleared.term = false := rfl
@[simp] theorem Engine.cleared_oph (e : Engine) : e.cleared.oph = false := rfl
@[simp] theorem Engine.cleared_text (e : Engine) : e.cleared.text = false := rfl
@[simp] theorem Engine.cleared_name (e : Engine) : e.cleared.name = .v224 := rfl
@[simp] theorem Engine.cleared_w64 (e : Engine) : e.cleared.w64 = false := rfl
@[simp] theorem Engine.cleared_msgLen (e : Engine) : e.cleared.msgLen = e.msgLen := rfl
@[simp] theorem Engine.cleared_keyLen (e : Engine) : e.cleared.keyLen = e.keyLen := rfl
@[simp] theorem Engine.cleared_mlen (e : Engine) : e.cleared.mlen = 0 := rfl
@[simp] theorem Engine.cleared_klen (e : Engine) : e.cleared.klen = 0 := rfl
@[simp] theorem Engine.cleared_err (e : Engine) : e.cleared.err = none := rfl
@[simp] theorem Engine.cleared_rlen (e : Engine) : e.cleared.rlen = 0 := rfl
@[simp] theorem Engine.cleared_dlen (e : Engine) : e.cleared.dlen = 0 := rfl
@[simp] theorem Engine.cleared_olen (e : Engine) : e.cleared.olen = 0 := rfl
@[simp] theorem Engine.cleared_obuf (e : Engine) : e.cleared.obuf = Vector.replicate 256 0 := rfl

/-! ## `Engine.enterError` (R300) -/

@[simp] theorem Engine.enterError_stage (e : Engine) (k : ErrorKind) : (e.enterError k).stage = .error := rfl
@[simp] theorem Engine.enterError_phase (e : Engine) (k : ErrorKind) : (e.enterError k).phase = .init := rfl
@[simp] theorem Engine.enterError_t (e : Engine) (k : ErrorKind) : (e.enterError k).t = 0 := rfl
@[simp] theorem Engine.enterError_h (e : Engine) (k : ErrorKind) : (e.enterError k).h = Vector.replicate 8 0 := rfl
@[simp] theorem Engine.enterError_vars (e : Engine) (k : ErrorKind) : (e.enterError k).vars = Vars.zero := rfl
@[simp] theorem Engine.enterError_w (e : Engine) (k : ErrorKind) : (e.enterError k).w = Vector.replicate 80 0 := rfl
@[simp] theorem Engine.enterError_blk (e : Engine) (k : ErrorKind) : (e.enterError k).blk = Vector.replicate 128 0 := rfl
@[simp] theorem Engine.enterError_iblk (e : Engine) (k : ErrorKind) : (e.enterError k).iblk = Vector.replicate 128 0 := rfl
@[simp] theorem Engine.enterError_injv (e : Engine) (k : ErrorKind) : (e.enterError k).injv = false := rfl
@[simp] theorem Engine.enterError_keyblk (e : Engine) (k : ErrorKind) : (e.enterError k).keyblk = Vector.replicate 128 0 := rfl
@[simp] theorem Engine.enterError_ikb (e : Engine) (k : ErrorKind) : (e.enterError k).ikb = Vector.replicate 128 0 := rfl
@[simp] theorem Engine.enterError_okb (e : Engine) (k : ErrorKind) : (e.enterError k).okb = Vector.replicate 128 0 := rfl
@[simp] theorem Engine.enterError_dbuf (e : Engine) (k : ErrorKind) : (e.enterError k).dbuf = Vector.replicate 64 0 := rfl
@[simp] theorem Engine.enterError_innerd (e : Engine) (k : ErrorKind) : (e.enterError k).innerd = Vector.replicate 64 0 := rfl
@[simp] theorem Engine.enterError_total (e : Engine) (k : ErrorKind) : (e.enterError k).total = 0 := rfl
@[simp] theorem Engine.enterError_consumed (e : Engine) (k : ErrorKind) : (e.enterError k).consumed = 0 := rfl
@[simp] theorem Engine.enterError_ra (e : Engine) (k : ErrorKind) : (e.enterError k).ra = [] := rfl
@[simp] theorem Engine.enterError_rcvd (e : Engine) (k : ErrorKind) : (e.enterError k).rcvd = 0 := rfl
@[simp] theorem Engine.enterError_src (e : Engine) (k : ErrorKind) : (e.enterError k).src = .none := rfl
@[simp] theorem Engine.enterError_srcLen (e : Engine) (k : ErrorKind) : (e.enterError k).srcLen = 0 := rfl
@[simp] theorem Engine.enterError_ipos (e : Engine) (k : ErrorKind) : (e.enterError k).ipos = 0 := rfl
@[simp] theorem Engine.enterError_term (e : Engine) (k : ErrorKind) : (e.enterError k).term = false := rfl
@[simp] theorem Engine.enterError_oph (e : Engine) (k : ErrorKind) : (e.enterError k).oph = false := rfl
@[simp] theorem Engine.enterError_text (e : Engine) (k : ErrorKind) : (e.enterError k).text = false := rfl
@[simp] theorem Engine.enterError_name (e : Engine) (k : ErrorKind) : (e.enterError k).name = .v224 := rfl
@[simp] theorem Engine.enterError_w64 (e : Engine) (k : ErrorKind) : (e.enterError k).w64 = false := rfl
@[simp] theorem Engine.enterError_msgLen (e : Engine) (k : ErrorKind) : (e.enterError k).msgLen = e.msgLen := rfl
@[simp] theorem Engine.enterError_keyLen (e : Engine) (k : ErrorKind) : (e.enterError k).keyLen = e.keyLen := rfl
@[simp] theorem Engine.enterError_mlen (e : Engine) (k : ErrorKind) : (e.enterError k).mlen = 0 := rfl
@[simp] theorem Engine.enterError_klen (e : Engine) (k : ErrorKind) : (e.enterError k).klen = 0 := rfl
@[simp] theorem Engine.enterError_err (e : Engine) (k : ErrorKind) : (e.enterError k).err = some k := rfl
@[simp] theorem Engine.enterError_rlen (e : Engine) (k : ErrorKind) : (e.enterError k).rlen = 0 := rfl
@[simp] theorem Engine.enterError_dlen (e : Engine) (k : ErrorKind) : (e.enterError k).dlen = 0 := rfl
@[simp] theorem Engine.enterError_olen (e : Engine) (k : ErrorKind) : (e.enterError k).olen = 0 := rfl
@[simp] theorem Engine.enterError_obuf (e : Engine) (k : ErrorKind) : (e.enterError k).obuf = Vector.replicate 256 0 := rfl

/-! ## `Engine.startStream` (R236, R239, R257) -/

@[simp] theorem Engine.startStream_stage (e : Engine) (src : Src) (len : BitVec 64) : (e.startStream src len).stage = e.stage := rfl
@[simp] theorem Engine.startStream_phase (e : Engine) (src : Src) (len : BitVec 64) : (e.startStream src len).phase = e.phase := rfl
@[simp] theorem Engine.startStream_t (e : Engine) (src : Src) (len : BitVec 64) : (e.startStream src len).t = e.t := rfl
@[simp] theorem Engine.startStream_h (e : Engine) (src : Src) (len : BitVec 64) : (e.startStream src len).h = e.h := rfl
@[simp] theorem Engine.startStream_vars (e : Engine) (src : Src) (len : BitVec 64) : (e.startStream src len).vars = e.vars := rfl
@[simp] theorem Engine.startStream_w (e : Engine) (src : Src) (len : BitVec 64) : (e.startStream src len).w = e.w := rfl
@[simp] theorem Engine.startStream_blk (e : Engine) (src : Src) (len : BitVec 64) : (e.startStream src len).blk = e.blk := rfl
@[simp] theorem Engine.startStream_iblk (e : Engine) (src : Src) (len : BitVec 64) : (e.startStream src len).iblk = e.iblk := rfl
@[simp] theorem Engine.startStream_injv (e : Engine) (src : Src) (len : BitVec 64) : (e.startStream src len).injv = e.injv := rfl
@[simp] theorem Engine.startStream_keyblk (e : Engine) (src : Src) (len : BitVec 64) : (e.startStream src len).keyblk = e.keyblk := rfl
@[simp] theorem Engine.startStream_ikb (e : Engine) (src : Src) (len : BitVec 64) : (e.startStream src len).ikb = e.ikb := rfl
@[simp] theorem Engine.startStream_okb (e : Engine) (src : Src) (len : BitVec 64) : (e.startStream src len).okb = e.okb := rfl
@[simp] theorem Engine.startStream_dbuf (e : Engine) (src : Src) (len : BitVec 64) : (e.startStream src len).dbuf = e.dbuf := rfl
@[simp] theorem Engine.startStream_innerd (e : Engine) (src : Src) (len : BitVec 64) : (e.startStream src len).innerd = e.innerd := rfl
@[simp] theorem Engine.startStream_total (e : Engine) (src : Src) (len : BitVec 64) : (e.startStream src len).total = e.total := rfl
@[simp] theorem Engine.startStream_consumed (e : Engine) (src : Src) (len : BitVec 64) : (e.startStream src len).consumed = e.consumed := rfl
@[simp] theorem Engine.startStream_ra (e : Engine) (src : Src) (len : BitVec 64) : (e.startStream src len).ra = [] := rfl
@[simp] theorem Engine.startStream_rcvd (e : Engine) (src : Src) (len : BitVec 64) : (e.startStream src len).rcvd = 0 := rfl
@[simp] theorem Engine.startStream_src (e : Engine) (src : Src) (len : BitVec 64) : (e.startStream src len).src = src := rfl
@[simp] theorem Engine.startStream_srcLen (e : Engine) (src : Src) (len : BitVec 64) : (e.startStream src len).srcLen = len := rfl
@[simp] theorem Engine.startStream_ipos (e : Engine) (src : Src) (len : BitVec 64) : (e.startStream src len).ipos = e.ipos := rfl
@[simp] theorem Engine.startStream_term (e : Engine) (src : Src) (len : BitVec 64) : (e.startStream src len).term = e.term := rfl
@[simp] theorem Engine.startStream_oph (e : Engine) (src : Src) (len : BitVec 64) : (e.startStream src len).oph = e.oph := rfl
@[simp] theorem Engine.startStream_text (e : Engine) (src : Src) (len : BitVec 64) : (e.startStream src len).text = e.text := rfl
@[simp] theorem Engine.startStream_name (e : Engine) (src : Src) (len : BitVec 64) : (e.startStream src len).name = e.name := rfl
@[simp] theorem Engine.startStream_w64 (e : Engine) (src : Src) (len : BitVec 64) : (e.startStream src len).w64 = e.w64 := rfl
@[simp] theorem Engine.startStream_msgLen (e : Engine) (src : Src) (len : BitVec 64) : (e.startStream src len).msgLen = e.msgLen := rfl
@[simp] theorem Engine.startStream_keyLen (e : Engine) (src : Src) (len : BitVec 64) : (e.startStream src len).keyLen = e.keyLen := rfl
@[simp] theorem Engine.startStream_mlen (e : Engine) (src : Src) (len : BitVec 64) : (e.startStream src len).mlen = e.mlen := rfl
@[simp] theorem Engine.startStream_klen (e : Engine) (src : Src) (len : BitVec 64) : (e.startStream src len).klen = e.klen := rfl
@[simp] theorem Engine.startStream_err (e : Engine) (src : Src) (len : BitVec 64) : (e.startStream src len).err = e.err := rfl
@[simp] theorem Engine.startStream_rlen (e : Engine) (src : Src) (len : BitVec 64) : (e.startStream src len).rlen = e.rlen := rfl
@[simp] theorem Engine.startStream_dlen (e : Engine) (src : Src) (len : BitVec 64) : (e.startStream src len).dlen = e.dlen := rfl
@[simp] theorem Engine.startStream_olen (e : Engine) (src : Src) (len : BitVec 64) : (e.startStream src len).olen = e.olen := rfl
@[simp] theorem Engine.startStream_obuf (e : Engine) (src : Src) (len : BitVec 64) : (e.startStream src len).obuf = e.obuf := rfl

/-! ## `Engine.emitBlock` (R182) -/

@[simp] theorem Engine.emitBlock_stage (e : Engine) (l : List Byte) (b : Bool) : (e.emitBlock l b).stage = e.stage := by
  simp only [Engine.emitBlock]
@[simp] theorem Engine.emitBlock_phase (e : Engine) (l : List Byte) (b : Bool) : (e.emitBlock l b).phase = e.phase := by
  simp only [Engine.emitBlock]
@[simp] theorem Engine.emitBlock_t (e : Engine) (l : List Byte) (b : Bool) : (e.emitBlock l b).t = e.t := by
  simp only [Engine.emitBlock]
@[simp] theorem Engine.emitBlock_h (e : Engine) (l : List Byte) (b : Bool) : (e.emitBlock l b).h = e.h := by
  simp only [Engine.emitBlock]
@[simp] theorem Engine.emitBlock_vars (e : Engine) (l : List Byte) (b : Bool) : (e.emitBlock l b).vars = e.vars := by
  simp only [Engine.emitBlock]
@[simp] theorem Engine.emitBlock_w (e : Engine) (l : List Byte) (b : Bool) : (e.emitBlock l b).w = e.w := by
  simp only [Engine.emitBlock]
@[simp] theorem Engine.emitBlock_blk (e : Engine) (l : List Byte) (b : Bool) : (e.emitBlock l b).blk = overwrite e.blk l := by
  simp only [Engine.emitBlock]
@[simp] theorem Engine.emitBlock_iblk (e : Engine) (l : List Byte) (b : Bool) : (e.emitBlock l b).iblk = e.iblk := by
  simp only [Engine.emitBlock]
@[simp] theorem Engine.emitBlock_injv (e : Engine) (l : List Byte) (b : Bool) : (e.emitBlock l b).injv = e.injv := by
  simp only [Engine.emitBlock]
@[simp] theorem Engine.emitBlock_keyblk (e : Engine) (l : List Byte) (b : Bool) : (e.emitBlock l b).keyblk = e.keyblk := by
  simp only [Engine.emitBlock]
@[simp] theorem Engine.emitBlock_ikb (e : Engine) (l : List Byte) (b : Bool) : (e.emitBlock l b).ikb = e.ikb := by
  simp only [Engine.emitBlock]
@[simp] theorem Engine.emitBlock_okb (e : Engine) (l : List Byte) (b : Bool) : (e.emitBlock l b).okb = e.okb := by
  simp only [Engine.emitBlock]
@[simp] theorem Engine.emitBlock_dbuf (e : Engine) (l : List Byte) (b : Bool) : (e.emitBlock l b).dbuf = e.dbuf := by
  simp only [Engine.emitBlock]
@[simp] theorem Engine.emitBlock_innerd (e : Engine) (l : List Byte) (b : Bool) : (e.emitBlock l b).innerd = e.innerd := by
  simp only [Engine.emitBlock]
@[simp] theorem Engine.emitBlock_total (e : Engine) (l : List Byte) (b : Bool) : (e.emitBlock l b).total = e.total := by
  simp only [Engine.emitBlock]
@[simp] theorem Engine.emitBlock_consumed (e : Engine) (l : List Byte) (b : Bool) : (e.emitBlock l b).consumed = e.consumed + BitVec.ofNat 66 e.blockSize := by
  simp only [Engine.emitBlock]
@[simp] theorem Engine.emitBlock_ra (e : Engine) (l : List Byte) (b : Bool) : (e.emitBlock l b).ra = e.ra := by
  simp only [Engine.emitBlock]
@[simp] theorem Engine.emitBlock_rcvd (e : Engine) (l : List Byte) (b : Bool) : (e.emitBlock l b).rcvd = e.rcvd := by
  simp only [Engine.emitBlock]
@[simp] theorem Engine.emitBlock_src (e : Engine) (l : List Byte) (b : Bool) : (e.emitBlock l b).src = e.src := by
  simp only [Engine.emitBlock]
@[simp] theorem Engine.emitBlock_srcLen (e : Engine) (l : List Byte) (b : Bool) : (e.emitBlock l b).srcLen = e.srcLen := by
  simp only [Engine.emitBlock]
@[simp] theorem Engine.emitBlock_ipos (e : Engine) (l : List Byte) (b : Bool) : (e.emitBlock l b).ipos = e.ipos := by
  simp only [Engine.emitBlock]
@[simp] theorem Engine.emitBlock_term (e : Engine) (l : List Byte) (b : Bool) : (e.emitBlock l b).term = b := by
  simp only [Engine.emitBlock]
@[simp] theorem Engine.emitBlock_oph (e : Engine) (l : List Byte) (b : Bool) : (e.emitBlock l b).oph = e.oph := by
  simp only [Engine.emitBlock]
@[simp] theorem Engine.emitBlock_text (e : Engine) (l : List Byte) (b : Bool) : (e.emitBlock l b).text = e.text := by
  simp only [Engine.emitBlock]
@[simp] theorem Engine.emitBlock_name (e : Engine) (l : List Byte) (b : Bool) : (e.emitBlock l b).name = e.name := by
  simp only [Engine.emitBlock]
@[simp] theorem Engine.emitBlock_w64 (e : Engine) (l : List Byte) (b : Bool) : (e.emitBlock l b).w64 = e.w64 := by
  simp only [Engine.emitBlock]
@[simp] theorem Engine.emitBlock_msgLen (e : Engine) (l : List Byte) (b : Bool) : (e.emitBlock l b).msgLen = e.msgLen := by
  simp only [Engine.emitBlock]
@[simp] theorem Engine.emitBlock_keyLen (e : Engine) (l : List Byte) (b : Bool) : (e.emitBlock l b).keyLen = e.keyLen := by
  simp only [Engine.emitBlock]
@[simp] theorem Engine.emitBlock_mlen (e : Engine) (l : List Byte) (b : Bool) : (e.emitBlock l b).mlen = e.mlen := by
  simp only [Engine.emitBlock]
@[simp] theorem Engine.emitBlock_klen (e : Engine) (l : List Byte) (b : Bool) : (e.emitBlock l b).klen = e.klen := by
  simp only [Engine.emitBlock]
@[simp] theorem Engine.emitBlock_err (e : Engine) (l : List Byte) (b : Bool) : (e.emitBlock l b).err = e.err := by
  simp only [Engine.emitBlock]
@[simp] theorem Engine.emitBlock_rlen (e : Engine) (l : List Byte) (b : Bool) : (e.emitBlock l b).rlen = e.rlen := by
  simp only [Engine.emitBlock]
@[simp] theorem Engine.emitBlock_dlen (e : Engine) (l : List Byte) (b : Bool) : (e.emitBlock l b).dlen = e.dlen := by
  simp only [Engine.emitBlock]
@[simp] theorem Engine.emitBlock_olen (e : Engine) (l : List Byte) (b : Bool) : (e.emitBlock l b).olen = e.olen := by
  simp only [Engine.emitBlock]
@[simp] theorem Engine.emitBlock_obuf (e : Engine) (l : List Byte) (b : Bool) : (e.emitBlock l b).obuf = e.obuf := by
  simp only [Engine.emitBlock]

/-! ## `Engine.srcTaken` (R74): only `RA` and `IPOS` change -/

@[simp] theorem Engine.srcTaken_stage (e : Engine) (n : Nat) : (e.srcTaken n).stage = e.stage := by
  simp only [Engine.srcTaken]; split <;> rfl
@[simp] theorem Engine.srcTaken_phase (e : Engine) (n : Nat) : (e.srcTaken n).phase = e.phase := by
  simp only [Engine.srcTaken]; split <;> rfl
@[simp] theorem Engine.srcTaken_t (e : Engine) (n : Nat) : (e.srcTaken n).t = e.t := by
  simp only [Engine.srcTaken]; split <;> rfl
@[simp] theorem Engine.srcTaken_h (e : Engine) (n : Nat) : (e.srcTaken n).h = e.h := by
  simp only [Engine.srcTaken]; split <;> rfl
@[simp] theorem Engine.srcTaken_vars (e : Engine) (n : Nat) : (e.srcTaken n).vars = e.vars := by
  simp only [Engine.srcTaken]; split <;> rfl
@[simp] theorem Engine.srcTaken_w (e : Engine) (n : Nat) : (e.srcTaken n).w = e.w := by
  simp only [Engine.srcTaken]; split <;> rfl
@[simp] theorem Engine.srcTaken_blk (e : Engine) (n : Nat) : (e.srcTaken n).blk = e.blk := by
  simp only [Engine.srcTaken]; split <;> rfl
@[simp] theorem Engine.srcTaken_iblk (e : Engine) (n : Nat) : (e.srcTaken n).iblk = e.iblk := by
  simp only [Engine.srcTaken]; split <;> rfl
@[simp] theorem Engine.srcTaken_injv (e : Engine) (n : Nat) : (e.srcTaken n).injv = e.injv := by
  simp only [Engine.srcTaken]; split <;> rfl
@[simp] theorem Engine.srcTaken_keyblk (e : Engine) (n : Nat) : (e.srcTaken n).keyblk = e.keyblk := by
  simp only [Engine.srcTaken]; split <;> rfl
@[simp] theorem Engine.srcTaken_ikb (e : Engine) (n : Nat) : (e.srcTaken n).ikb = e.ikb := by
  simp only [Engine.srcTaken]; split <;> rfl
@[simp] theorem Engine.srcTaken_okb (e : Engine) (n : Nat) : (e.srcTaken n).okb = e.okb := by
  simp only [Engine.srcTaken]; split <;> rfl
@[simp] theorem Engine.srcTaken_dbuf (e : Engine) (n : Nat) : (e.srcTaken n).dbuf = e.dbuf := by
  simp only [Engine.srcTaken]; split <;> rfl
@[simp] theorem Engine.srcTaken_innerd (e : Engine) (n : Nat) : (e.srcTaken n).innerd = e.innerd := by
  simp only [Engine.srcTaken]; split <;> rfl
@[simp] theorem Engine.srcTaken_total (e : Engine) (n : Nat) : (e.srcTaken n).total = e.total := by
  simp only [Engine.srcTaken]; split <;> rfl
@[simp] theorem Engine.srcTaken_consumed (e : Engine) (n : Nat) : (e.srcTaken n).consumed = e.consumed := by
  simp only [Engine.srcTaken]; split <;> rfl
@[simp] theorem Engine.srcTaken_rcvd (e : Engine) (n : Nat) : (e.srcTaken n).rcvd = e.rcvd := by
  simp only [Engine.srcTaken]; split <;> rfl
@[simp] theorem Engine.srcTaken_src (e : Engine) (n : Nat) : (e.srcTaken n).src = e.src := by
  simp only [Engine.srcTaken]; split <;> rfl
@[simp] theorem Engine.srcTaken_srcLen (e : Engine) (n : Nat) : (e.srcTaken n).srcLen = e.srcLen := by
  simp only [Engine.srcTaken]; split <;> rfl
@[simp] theorem Engine.srcTaken_term (e : Engine) (n : Nat) : (e.srcTaken n).term = e.term := by
  simp only [Engine.srcTaken]; split <;> rfl
@[simp] theorem Engine.srcTaken_oph (e : Engine) (n : Nat) : (e.srcTaken n).oph = e.oph := by
  simp only [Engine.srcTaken]; split <;> rfl
@[simp] theorem Engine.srcTaken_text (e : Engine) (n : Nat) : (e.srcTaken n).text = e.text := by
  simp only [Engine.srcTaken]; split <;> rfl
@[simp] theorem Engine.srcTaken_name (e : Engine) (n : Nat) : (e.srcTaken n).name = e.name := by
  simp only [Engine.srcTaken]; split <;> rfl
@[simp] theorem Engine.srcTaken_w64 (e : Engine) (n : Nat) : (e.srcTaken n).w64 = e.w64 := by
  simp only [Engine.srcTaken]; split <;> rfl
@[simp] theorem Engine.srcTaken_msgLen (e : Engine) (n : Nat) : (e.srcTaken n).msgLen = e.msgLen := by
  simp only [Engine.srcTaken]; split <;> rfl
@[simp] theorem Engine.srcTaken_keyLen (e : Engine) (n : Nat) : (e.srcTaken n).keyLen = e.keyLen := by
  simp only [Engine.srcTaken]; split <;> rfl
@[simp] theorem Engine.srcTaken_mlen (e : Engine) (n : Nat) : (e.srcTaken n).mlen = e.mlen := by
  simp only [Engine.srcTaken]; split <;> rfl
@[simp] theorem Engine.srcTaken_klen (e : Engine) (n : Nat) : (e.srcTaken n).klen = e.klen := by
  simp only [Engine.srcTaken]; split <;> rfl
@[simp] theorem Engine.srcTaken_err (e : Engine) (n : Nat) : (e.srcTaken n).err = e.err := by
  simp only [Engine.srcTaken]; split <;> rfl
@[simp] theorem Engine.srcTaken_rlen (e : Engine) (n : Nat) : (e.srcTaken n).rlen = e.rlen := by
  simp only [Engine.srcTaken]; split <;> rfl
@[simp] theorem Engine.srcTaken_dlen (e : Engine) (n : Nat) : (e.srcTaken n).dlen = e.dlen := by
  simp only [Engine.srcTaken]; split <;> rfl
@[simp] theorem Engine.srcTaken_olen (e : Engine) (n : Nat) : (e.srcTaken n).olen = e.olen := by
  simp only [Engine.srcTaken]; split <;> rfl
@[simp] theorem Engine.srcTaken_obuf (e : Engine) (n : Nat) : (e.srcTaken n).obuf = e.obuf := by
  simp only [Engine.srcTaken]; split <;> rfl

/-- What `SrcTake` leaves of the window. -/
theorem Engine.srcTaken_ra (e : Engine) (n : Nat) :
    (e.srcTaken n).ra = if e.src = .key ∨ e.src = .msg then e.ra.drop n else e.ra := by
  unfold Engine.srcTaken; cases h : e.src <;> simp

/-- What `SrcTake` makes of `IPOS`. -/
theorem Engine.srcTaken_ipos (e : Engine) (n : Nat) :
    (e.srcTaken n).ipos = if e.src = .innerd then e.ipos + BitVec.ofNat 7 n else e.ipos := by
  unfold Engine.srcTaken; cases h : e.src <;> simp

end Sys2Proof.Machine
end

