-- ==== Sys2Proof/Laws/Ops.lean ====
section
/-! SUPPORT. What each shared operation of Machine/Ops.lean can answer, and the parameters of the running variant. -/

namespace Sys2Proof.Machine

/-! ## Answers -/

@[simp] theorem State.act_eq (s : State) (e : Engine) : s.act e = .next (s.withEng e) := rfl
@[simp] theorem State.idle_eq (s : State) : s.idle = .next s := rfl
@[simp] theorem State.answer_eq (s : State) (o : Output) : s.answer o = .next (s.returning o) := rfl
@[simp] theorem State.raise_eq (s : State) (k : ErrorKind) : s.raise k = .next (s.withEng (s.eng.enterError k)) := rfl
@[simp] theorem State.read_eq (s : State) (off : BitVec 9) :
    s.read off = .next (s.returning (.bus (s.eng.busRead off))) := rfl

/-- An enabled operation has its effect. -/
theorem State.actIf_true {s : State} {b : Bool} (e : Engine) (h : b = true) : s.actIf b e = .next (s.withEng e) := by
  simp [State.actIf, h]

/-- An operation that is not enabled changes nothing. -/
theorem State.actIf_false {s : State} {b : Bool} (e : Engine) (h : b = false) : s.actIf b e = .next s := by
  simp [State.actIf, h]

/-- All that `actIf` can answer. -/
theorem State.actIf_next {s t : State} {b : Bool} {e : Engine} (h : s.actIf b e = .next t) :
    b = true ∧ t = s.withEng e ∨ b = false ∧ t = s := by
  cases b
  · exact .inr ⟨rfl, by simpa [State.actIf] using h.symm⟩
  · exact .inl ⟨rfl, by simpa [State.actIf] using h.symm⟩

/-- All that a `WR.DINCTL` can answer: error entry, or nothing. -/
theorem dinctl_next {s t : State} {v : BitVec 32} (h : execWrDinctl v s = .next t) :
    (∃ k, s.eng.dinctlError v = some k ∧ t = s.withEng (s.eng.enterError k)) ∨ s.eng.dinctlError v = none ∧ t = s := by
  unfold execWrDinctl at h
  split at h
  · next k hk => exact .inl ⟨k, hk, by simpa using h.symm⟩
  · next hk => exact .inr ⟨hk, by simpa using h.symm⟩

/-- What a step can be: the first packet's operation, the write of an ill-formed command word, or the sequencer's turn. -/
theorem step_cases {s t : State} (h : step s = .next t) :
    (∃ p rest i bs, s.sched = p :: rest ∧ decode p.fmt p.bytes = .ok (i, bs) ∧ exec i { s with sched := rest } = .next t) ∨
    (∃ p rest v, s.sched = p :: rest ∧ decode p.fmt p.bytes = .error (.reservedCommandBits v) ∧
      exec (.wrCmd v) { s with sched := rest } = .next t) ∨
    (∃ i, s.sched = [] ∧ s.eng.candidate = some i ∧ exec i s = .next t) ∨
    (s.sched = [] ∧ s.eng.candidate = none ∧ t = s) := by
  unfold step nextStep at h
  split at h
  · next hs =>
    unfold engineTurn at h
    split at h
    · next i hi => exact .inr (.inr (.inl ⟨i, hs, hi, h⟩))
    · next hi => exact .inr (.inr (.inr ⟨hs, hi, by simpa using h.symm⟩))
  · next p rest hs =>
    unfold runPacket at h
    split at h
    · next i bs hd => exact .inl ⟨p, rest, i, bs, hs, hd, h⟩
    · next err hd =>
      unfold rejectPacket at h
      cases err with
      | reservedCommandBits v => exact .inr (.inl ⟨p, rest, v, hs, hd, h⟩)
      | _ => cases h

/-! ## Parameters -/

theorem Config.raBytes_ge : 128 ≤ Config.raBytes := by simp [Config.raBytes]

theorem blockBytes_pos (wd : Width) : 0 < blockBytes wd := by cases wd <;> decide

theorem blockBytes_le (wd : Width) : blockBytes wd ≤ 128 := by cases wd <;> decide

theorem blockBytes_le_raBytes (wd : Width) : blockBytes wd ≤ Config.raBytes :=
  (blockBytes_le wd).trans Config.raBytes_ge

theorem lenFieldBytes_lt (wd : Width) : lenFieldBytes wd < blockBytes wd := by cases wd <;> decide

/-- A digest fits 64 bytes, and fits one block beside the padding (R238, R241). -/
theorem digestBytes_le (v : Variant) :
    digestBytes v ≤ 64 ∧ digestBytes v + 1 + lenFieldBytes (variantWidth v) ≤ blockBytes (variantWidth v) := by
  cases v <;> decide

/-! ## The byte source -/

/-- `SrcTake(n)` returns `n` bytes where they are available (R74); `INNERD` has 64. -/
theorem Engine.srcBytes_length (e : Engine) (n : Nat) (h : n ≤ e.srcAvail) (h64 : e.srcLen.toNat ≤ 64) :
    (e.srcBytes n).length = n := by
  unfold Engine.srcAvail at h
  unfold Engine.srcBytes
  cases hs : e.src <;> simp only [hs] at h ⊢
  · simp; omega
  · simpa using h
  · simpa using h
  · rw [slice_length]; omega

/-- An external source needs no bound on its length. -/
theorem Engine.srcBytes_length_external (e : Engine) (n : Nat) (h : n ≤ e.srcAvail) (hs : e.src ≠ .innerd) :
    (e.srcBytes n).length = n := by
  unfold Engine.srcAvail at h
  unfold Engine.srcBytes
  cases hs' : e.src <;> simp only [hs'] at h ⊢
  · simp; omega
  · simpa using h
  · simpa using h
  · exact absurd hs' hs

end Sys2Proof.Machine
end

