-- ==== Sys2Proof/Laws/Engine.lean ====
section
/-! SUPPORT. What each part of the engine leaves unchanged and the plain values it writes: one lemma per update and field, and
the parameters of the running variant, which follow NAME. -/

namespace Sys2Proof.Machine


/-! ## The shared updates: parameters -/

@[simp] theorem Engine.startStream_width (e : Engine) (src : Src) (len : BitVec 64) : (e.startStream src len).width = e.width := by simp only [Engine.width, Engine.startStream_name]
@[simp] theorem Engine.startStream_blockSize (e : Engine) (src : Src) (len : BitVec 64) : (e.startStream src len).blockSize = e.blockSize := by simp only [Engine.blockSize, Engine.startStream_width]
@[simp] theorem Engine.startStream_lenField (e : Engine) (src : Src) (len : BitVec 64) : (e.startStream src len).lenField = e.lenField := by simp only [Engine.lenField, Engine.startStream_width]
@[simp] theorem Engine.startStream_rounds (e : Engine) (src : Src) (len : BitVec 64) : (e.startStream src len).rounds = e.rounds := by simp only [Engine.rounds, Engine.startStream_width]
@[simp] theorem Engine.startStream_digestLength (e : Engine) (src : Src) (len : BitVec 64) : (e.startStream src len).digestLength = e.digestLength := by simp only [Engine.digestLength, Engine.startStream_name]
@[simp] theorem Engine.startStream_digestWordCount (e : Engine) (src : Src) (len : BitVec 64) : (e.startStream src len).digestWordCount = e.digestWordCount := by simp only [Engine.digestWordCount, Engine.startStream_name]
@[simp] theorem Engine.emitBlock_width (e : Engine) (l : List Byte) (b : Bool) : (e.emitBlock l b).width = e.width := by simp only [Engine.width, Engine.emitBlock_name]
@[simp] theorem Engine.emitBlock_blockSize (e : Engine) (l : List Byte) (b : Bool) : (e.emitBlock l b).blockSize = e.blockSize := by simp only [Engine.blockSize, Engine.emitBlock_width]
@[simp] theorem Engine.emitBlock_lenField (e : Engine) (l : List Byte) (b : Bool) : (e.emitBlock l b).lenField = e.lenField := by simp only [Engine.lenField, Engine.emitBlock_width]
@[simp] theorem Engine.emitBlock_rounds (e : Engine) (l : List Byte) (b : Bool) : (e.emitBlock l b).rounds = e.rounds := by simp only [Engine.rounds, Engine.emitBlock_width]
@[simp] theorem Engine.emitBlock_digestLength (e : Engine) (l : List Byte) (b : Bool) : (e.emitBlock l b).digestLength = e.digestLength := by simp only [Engine.digestLength, Engine.emitBlock_name]
@[simp] theorem Engine.emitBlock_digestWordCount (e : Engine) (l : List Byte) (b : Bool) : (e.emitBlock l b).digestWordCount = e.digestWordCount := by simp only [Engine.digestWordCount, Engine.emitBlock_name]
@[simp] theorem Engine.srcTaken_width (e : Engine) (n : Nat) : (e.srcTaken n).width = e.width := by simp only [Engine.width, Engine.srcTaken_name]
@[simp] theorem Engine.srcTaken_blockSize (e : Engine) (n : Nat) : (e.srcTaken n).blockSize = e.blockSize := by simp only [Engine.blockSize, Engine.srcTaken_width]
@[simp] theorem Engine.srcTaken_lenField (e : Engine) (n : Nat) : (e.srcTaken n).lenField = e.lenField := by simp only [Engine.lenField, Engine.srcTaken_width]
@[simp] theorem Engine.srcTaken_rounds (e : Engine) (n : Nat) : (e.srcTaken n).rounds = e.rounds := by simp only [Engine.rounds, Engine.srcTaken_width]
@[simp] theorem Engine.srcTaken_digestLength (e : Engine) (n : Nat) : (e.srcTaken n).digestLength = e.digestLength := by simp only [Engine.digestLength, Engine.srcTaken_name]
@[simp] theorem Engine.srcTaken_digestWordCount (e : Engine) (n : Nat) : (e.srcTaken n).digestWordCount = e.digestWordCount := by simp only [Engine.digestWordCount, Engine.srcTaken_name]

/-! ## `Engine.blockStep` (R173, R176, R177, R179, R180) -/

@[simp] theorem Engine.blockStep_stage (e : Engine) (op : BlockOp) : (e.blockStep op).stage = e.stage := by cases op <;> simp [Engine.blockStep, Engine.inject, Engine.fullBlock, Engine.finalBlock, Engine.padOnlyBlock, Engine.lenOnlyBlock]
@[simp] theorem Engine.blockStep_phase (e : Engine) (op : BlockOp) : (e.blockStep op).phase = e.phase := by cases op <;> simp [Engine.blockStep, Engine.inject, Engine.fullBlock, Engine.finalBlock, Engine.padOnlyBlock, Engine.lenOnlyBlock]
@[simp] theorem Engine.blockStep_t (e : Engine) (op : BlockOp) : (e.blockStep op).t = e.t := by cases op <;> simp [Engine.blockStep, Engine.inject, Engine.fullBlock, Engine.finalBlock, Engine.padOnlyBlock, Engine.lenOnlyBlock]
@[simp] theorem Engine.blockStep_h (e : Engine) (op : BlockOp) : (e.blockStep op).h = e.h := by cases op <;> simp [Engine.blockStep, Engine.inject, Engine.fullBlock, Engine.finalBlock, Engine.padOnlyBlock, Engine.lenOnlyBlock]
@[simp] theorem Engine.blockStep_vars (e : Engine) (op : BlockOp) : (e.blockStep op).vars = e.vars := by cases op <;> simp [Engine.blockStep, Engine.inject, Engine.fullBlock, Engine.finalBlock, Engine.padOnlyBlock, Engine.lenOnlyBlock]
@[simp] theorem Engine.blockStep_w (e : Engine) (op : BlockOp) : (e.blockStep op).w = e.w := by cases op <;> simp [Engine.blockStep, Engine.inject, Engine.fullBlock, Engine.finalBlock, Engine.padOnlyBlock, Engine.lenOnlyBlock]
@[simp] theorem Engine.blockStep_iblk (e : Engine) (op : BlockOp) : (e.blockStep op).iblk = e.iblk := by cases op <;> simp [Engine.blockStep, Engine.inject, Engine.fullBlock, Engine.finalBlock, Engine.padOnlyBlock, Engine.lenOnlyBlock]
@[simp] theorem Engine.blockStep_keyblk (e : Engine) (op : BlockOp) : (e.blockStep op).keyblk = e.keyblk := by cases op <;> simp [Engine.blockStep, Engine.inject, Engine.fullBlock, Engine.finalBlock, Engine.padOnlyBlock, Engine.lenOnlyBlock]
@[simp] theorem Engine.blockStep_ikb (e : Engine) (op : BlockOp) : (e.blockStep op).ikb = e.ikb := by cases op <;> simp [Engine.blockStep, Engine.inject, Engine.fullBlock, Engine.finalBlock, Engine.padOnlyBlock, Engine.lenOnlyBlock]
@[simp] theorem Engine.blockStep_okb (e : Engine) (op : BlockOp) : (e.blockStep op).okb = e.okb := by cases op <;> simp [Engine.blockStep, Engine.inject, Engine.fullBlock, Engine.finalBlock, Engine.padOnlyBlock, Engine.lenOnlyBlock]
@[simp] theorem Engine.blockStep_dbuf (e : Engine) (op : BlockOp) : (e.blockStep op).dbuf = e.dbuf := by cases op <;> simp [Engine.blockStep, Engine.inject, Engine.fullBlock, Engine.finalBlock, Engine.padOnlyBlock, Engine.lenOnlyBlock]
@[simp] theorem Engine.blockStep_innerd (e : Engine) (op : BlockOp) : (e.blockStep op).innerd = e.innerd := by cases op <;> simp [Engine.blockStep, Engine.inject, Engine.fullBlock, Engine.finalBlock, Engine.padOnlyBlock, Engine.lenOnlyBlock]
@[simp] theorem Engine.blockStep_rcvd (e : Engine) (op : BlockOp) : (e.blockStep op).rcvd = e.rcvd := by cases op <;> simp [Engine.blockStep, Engine.inject, Engine.fullBlock, Engine.finalBlock, Engine.padOnlyBlock, Engine.lenOnlyBlock]
@[simp] theorem Engine.blockStep_src (e : Engine) (op : BlockOp) : (e.blockStep op).src = e.src := by cases op <;> simp [Engine.blockStep, Engine.inject, Engine.fullBlock, Engine.finalBlock, Engine.padOnlyBlock, Engine.lenOnlyBlock]
@[simp] theorem Engine.blockStep_srcLen (e : Engine) (op : BlockOp) : (e.blockStep op).srcLen = e.srcLen := by cases op <;> simp [Engine.blockStep, Engine.inject, Engine.fullBlock, Engine.finalBlock, Engine.padOnlyBlock, Engine.lenOnlyBlock]
@[simp] theorem Engine.blockStep_oph (e : Engine) (op : BlockOp) : (e.blockStep op).oph = e.oph := by cases op <;> simp [Engine.blockStep, Engine.inject, Engine.fullBlock, Engine.finalBlock, Engine.padOnlyBlock, Engine.lenOnlyBlock]
@[simp] theorem Engine.blockStep_text (e : Engine) (op : BlockOp) : (e.blockStep op).text = e.text := by cases op <;> simp [Engine.blockStep, Engine.inject, Engine.fullBlock, Engine.finalBlock, Engine.padOnlyBlock, Engine.lenOnlyBlock]
@[simp] theorem Engine.blockStep_name (e : Engine) (op : BlockOp) : (e.blockStep op).name = e.name := by cases op <;> simp [Engine.blockStep, Engine.inject, Engine.fullBlock, Engine.finalBlock, Engine.padOnlyBlock, Engine.lenOnlyBlock]
@[simp] theorem Engine.blockStep_w64 (e : Engine) (op : BlockOp) : (e.blockStep op).w64 = e.w64 := by cases op <;> simp [Engine.blockStep, Engine.inject, Engine.fullBlock, Engine.finalBlock, Engine.padOnlyBlock, Engine.lenOnlyBlock]
@[simp] theorem Engine.blockStep_msgLen (e : Engine) (op : BlockOp) : (e.blockStep op).msgLen = e.msgLen := by cases op <;> simp [Engine.blockStep, Engine.inject, Engine.fullBlock, Engine.finalBlock, Engine.padOnlyBlock, Engine.lenOnlyBlock]
@[simp] theorem Engine.blockStep_keyLen (e : Engine) (op : BlockOp) : (e.blockStep op).keyLen = e.keyLen := by cases op <;> simp [Engine.blockStep, Engine.inject, Engine.fullBlock, Engine.finalBlock, Engine.padOnlyBlock, Engine.lenOnlyBlock]
@[simp] theorem Engine.blockStep_mlen (e : Engine) (op : BlockOp) : (e.blockStep op).mlen = e.mlen := by cases op <;> simp [Engine.blockStep, Engine.inject, Engine.fullBlock, Engine.finalBlock, Engine.padOnlyBlock, Engine.lenOnlyBlock]
@[simp] theorem Engine.blockStep_klen (e : Engine) (op : BlockOp) : (e.blockStep op).klen = e.klen := by cases op <;> simp [Engine.blockStep, Engine.inject, Engine.fullBlock, Engine.finalBlock, Engine.padOnlyBlock, Engine.lenOnlyBlock]
@[simp] theorem Engine.blockStep_err (e : Engine) (op : BlockOp) : (e.blockStep op).err = e.err := by cases op <;> simp [Engine.blockStep, Engine.inject, Engine.fullBlock, Engine.finalBlock, Engine.padOnlyBlock, Engine.lenOnlyBlock]
@[simp] theorem Engine.blockStep_rlen (e : Engine) (op : BlockOp) : (e.blockStep op).rlen = e.rlen := by cases op <;> simp [Engine.blockStep, Engine.inject, Engine.fullBlock, Engine.finalBlock, Engine.padOnlyBlock, Engine.lenOnlyBlock]
@[simp] theorem Engine.blockStep_dlen (e : Engine) (op : BlockOp) : (e.blockStep op).dlen = e.dlen := by cases op <;> simp [Engine.blockStep, Engine.inject, Engine.fullBlock, Engine.finalBlock, Engine.padOnlyBlock, Engine.lenOnlyBlock]
@[simp] theorem Engine.blockStep_olen (e : Engine) (op : BlockOp) : (e.blockStep op).olen = e.olen := by cases op <;> simp [Engine.blockStep, Engine.inject, Engine.fullBlock, Engine.finalBlock, Engine.padOnlyBlock, Engine.lenOnlyBlock]
@[simp] theorem Engine.blockStep_obuf (e : Engine) (op : BlockOp) : (e.blockStep op).obuf = e.obuf := by cases op <;> simp [Engine.blockStep, Engine.inject, Engine.fullBlock, Engine.finalBlock, Engine.padOnlyBlock, Engine.lenOnlyBlock]
@[simp] theorem Engine.blockStep_width (e : Engine) (op : BlockOp) : (e.blockStep op).width = e.width := by simp only [Engine.width, Engine.blockStep_name]
@[simp] theorem Engine.blockStep_blockSize (e : Engine) (op : BlockOp) : (e.blockStep op).blockSize = e.blockSize := by simp only [Engine.blockSize, Engine.blockStep_width]
@[simp] theorem Engine.blockStep_lenField (e : Engine) (op : BlockOp) : (e.blockStep op).lenField = e.lenField := by simp only [Engine.lenField, Engine.blockStep_width]
@[simp] theorem Engine.blockStep_rounds (e : Engine) (op : BlockOp) : (e.blockStep op).rounds = e.rounds := by simp only [Engine.rounds, Engine.blockStep_width]
@[simp] theorem Engine.blockStep_digestLength (e : Engine) (op : BlockOp) : (e.blockStep op).digestLength = e.digestLength := by simp only [Engine.digestLength, Engine.blockStep_name]
@[simp] theorem Engine.blockStep_digestWordCount (e : Engine) (op : BlockOp) : (e.blockStep op).digestWordCount = e.digestWordCount := by simp only [Engine.digestWordCount, Engine.blockStep_name]

/-! ## `Engine.nextBlock` (R171) -/

@[simp] theorem Engine.nextBlock_stage (e : Engine) : (e.nextBlock).stage = e.stage := by simp [Engine.nextBlock]
@[simp] theorem Engine.nextBlock_phase (e : Engine) : (e.nextBlock).phase = .compress := by simp [Engine.nextBlock]
@[simp] theorem Engine.nextBlock_t (e : Engine) : (e.nextBlock).t = e.t := by simp [Engine.nextBlock]
@[simp] theorem Engine.nextBlock_h (e : Engine) : (e.nextBlock).h = e.h := by simp [Engine.nextBlock]
@[simp] theorem Engine.nextBlock_vars (e : Engine) : (e.nextBlock).vars = e.vars := by simp [Engine.nextBlock]
@[simp] theorem Engine.nextBlock_w (e : Engine) : (e.nextBlock).w = e.w := by simp [Engine.nextBlock]
@[simp] theorem Engine.nextBlock_blk (e : Engine) : (e.nextBlock).blk = (e.blockStep e.selectBlockOp).blk := by simp [Engine.nextBlock]
@[simp] theorem Engine.nextBlock_iblk (e : Engine) : (e.nextBlock).iblk = e.iblk := by simp [Engine.nextBlock]
@[simp] theorem Engine.nextBlock_injv (e : Engine) : (e.nextBlock).injv = (e.blockStep e.selectBlockOp).injv := by simp [Engine.nextBlock]
@[simp] theorem Engine.nextBlock_keyblk (e : Engine) : (e.nextBlock).keyblk = e.keyblk := by simp [Engine.nextBlock]
@[simp] theorem Engine.nextBlock_ikb (e : Engine) : (e.nextBlock).ikb = e.ikb := by simp [Engine.nextBlock]
@[simp] theorem Engine.nextBlock_okb (e : Engine) : (e.nextBlock).okb = e.okb := by simp [Engine.nextBlock]
@[simp] theorem Engine.nextBlock_dbuf (e : Engine) : (e.nextBlock).dbuf = e.dbuf := by simp [Engine.nextBlock]
@[simp] theorem Engine.nextBlock_innerd (e : Engine) : (e.nextBlock).innerd = e.innerd := by simp [Engine.nextBlock]
@[simp] theorem Engine.nextBlock_total (e : Engine) : (e.nextBlock).total = (e.blockStep e.selectBlockOp).total := by simp [Engine.nextBlock]
@[simp] theorem Engine.nextBlock_consumed (e : Engine) : (e.nextBlock).consumed = (e.blockStep e.selectBlockOp).consumed := by simp [Engine.nextBlock]
@[simp] theorem Engine.nextBlock_ra (e : Engine) : (e.nextBlock).ra = (e.blockStep e.selectBlockOp).ra := by simp [Engine.nextBlock]
@[simp] theorem Engine.nextBlock_rcvd (e : Engine) : (e.nextBlock).rcvd = e.rcvd := by simp [Engine.nextBlock]
@[simp] theorem Engine.nextBlock_src (e : Engine) : (e.nextBlock).src = e.src := by simp [Engine.nextBlock]
@[simp] theorem Engine.nextBlock_srcLen (e : Engine) : (e.nextBlock).srcLen = e.srcLen := by simp [Engine.nextBlock]
@[simp] theorem Engine.nextBlock_ipos (e : Engine) : (e.nextBlock).ipos = (e.blockStep e.selectBlockOp).ipos := by simp [Engine.nextBlock]
@[simp] theorem Engine.nextBlock_term (e : Engine) : (e.nextBlock).term = (e.blockStep e.selectBlockOp).term := by simp [Engine.nextBlock]
@[simp] theorem Engine.nextBlock_oph (e : Engine) : (e.nextBlock).oph = e.oph := by simp [Engine.nextBlock]
@[simp] theorem Engine.nextBlock_text (e : Engine) : (e.nextBlock).text = e.text := by simp [Engine.nextBlock]
@[simp] theorem Engine.nextBlock_name (e : Engine) : (e.nextBlock).name = e.name := by simp [Engine.nextBlock]
@[simp] theorem Engine.nextBlock_w64 (e : Engine) : (e.nextBlock).w64 = e.w64 := by simp [Engine.nextBlock]
@[simp] theorem Engine.nextBlock_msgLen (e : Engine) : (e.nextBlock).msgLen = e.msgLen := by simp [Engine.nextBlock]
@[simp] theorem Engine.nextBlock_keyLen (e : Engine) : (e.nextBlock).keyLen = e.keyLen := by simp [Engine.nextBlock]
@[simp] theorem Engine.nextBlock_mlen (e : Engine) : (e.nextBlock).mlen = e.mlen := by simp [Engine.nextBlock]
@[simp] theorem Engine.nextBlock_klen (e : Engine) : (e.nextBlock).klen = e.klen := by simp [Engine.nextBlock]
@[simp] theorem Engine.nextBlock_err (e : Engine) : (e.nextBlock).err = e.err := by simp [Engine.nextBlock]
@[simp] theorem Engine.nextBlock_rlen (e : Engine) : (e.nextBlock).rlen = e.rlen := by simp [Engine.nextBlock]
@[simp] theorem Engine.nextBlock_dlen (e : Engine) : (e.nextBlock).dlen = e.dlen := by simp [Engine.nextBlock]
@[simp] theorem Engine.nextBlock_olen (e : Engine) : (e.nextBlock).olen = e.olen := by simp [Engine.nextBlock]
@[simp] theorem Engine.nextBlock_obuf (e : Engine) : (e.nextBlock).obuf = e.obuf := by simp [Engine.nextBlock]
@[simp] theorem Engine.nextBlock_width (e : Engine) : (e.nextBlock).width = e.width := by simp only [Engine.width, Engine.nextBlock_name]
@[simp] theorem Engine.nextBlock_blockSize (e : Engine) : (e.nextBlock).blockSize = e.blockSize := by simp only [Engine.blockSize, Engine.nextBlock_width]
@[simp] theorem Engine.nextBlock_lenField (e : Engine) : (e.nextBlock).lenField = e.lenField := by simp only [Engine.lenField, Engine.nextBlock_width]
@[simp] theorem Engine.nextBlock_rounds (e : Engine) : (e.nextBlock).rounds = e.rounds := by simp only [Engine.rounds, Engine.nextBlock_width]
@[simp] theorem Engine.nextBlock_digestLength (e : Engine) : (e.nextBlock).digestLength = e.digestLength := by simp only [Engine.digestLength, Engine.nextBlock_name]
@[simp] theorem Engine.nextBlock_digestWordCount (e : Engine) : (e.nextBlock).digestWordCount = e.digestWordCount := by simp only [Engine.digestWordCount, Engine.nextBlock_name]

/-! ## `Engine.loadWords` (R201) -/

@[simp] theorem Engine.loadWords_stage (e : Engine) : (e.loadWords).stage = e.stage := by simp only [Engine.loadWords]
@[simp] theorem Engine.loadWords_phase (e : Engine) : (e.loadWords).phase = e.phase := by simp only [Engine.loadWords]
@[simp] theorem Engine.loadWords_t (e : Engine) : (e.loadWords).t = e.t := by simp only [Engine.loadWords]
@[simp] theorem Engine.loadWords_h (e : Engine) : (e.loadWords).h = e.h := by simp only [Engine.loadWords]
@[simp] theorem Engine.loadWords_vars (e : Engine) : (e.loadWords).vars = e.vars := by simp only [Engine.loadWords]
@[simp] theorem Engine.loadWords_blk (e : Engine) : (e.loadWords).blk = e.blk := by simp only [Engine.loadWords]
@[simp] theorem Engine.loadWords_iblk (e : Engine) : (e.loadWords).iblk = e.iblk := by simp only [Engine.loadWords]
@[simp] theorem Engine.loadWords_injv (e : Engine) : (e.loadWords).injv = e.injv := by simp only [Engine.loadWords]
@[simp] theorem Engine.loadWords_keyblk (e : Engine) : (e.loadWords).keyblk = e.keyblk := by simp only [Engine.loadWords]
@[simp] theorem Engine.loadWords_ikb (e : Engine) : (e.loadWords).ikb = e.ikb := by simp only [Engine.loadWords]
@[simp] theorem Engine.loadWords_okb (e : Engine) : (e.loadWords).okb = e.okb := by simp only [Engine.loadWords]
@[simp] theorem Engine.loadWords_dbuf (e : Engine) : (e.loadWords).dbuf = e.dbuf := by simp only [Engine.loadWords]
@[simp] theorem Engine.loadWords_innerd (e : Engine) : (e.loadWords).innerd = e.innerd := by simp only [Engine.loadWords]
@[simp] theorem Engine.loadWords_total (e : Engine) : (e.loadWords).total = e.total := by simp only [Engine.loadWords]
@[simp] theorem Engine.loadWords_consumed (e : Engine) : (e.loadWords).consumed = e.consumed := by simp only [Engine.loadWords]
@[simp] theorem Engine.loadWords_ra (e : Engine) : (e.loadWords).ra = e.ra := by simp only [Engine.loadWords]
@[simp] theorem Engine.loadWords_rcvd (e : Engine) : (e.loadWords).rcvd = e.rcvd := by simp only [Engine.loadWords]
@[simp] theorem Engine.loadWords_src (e : Engine) : (e.loadWords).src = e.src := by simp only [Engine.loadWords]
@[simp] theorem Engine.loadWords_srcLen (e : Engine) : (e.loadWords).srcLen = e.srcLen := by simp only [Engine.loadWords]
@[simp] theorem Engine.loadWords_ipos (e : Engine) : (e.loadWords).ipos = e.ipos := by simp only [Engine.loadWords]
@[simp] theorem Engine.loadWords_term (e : Engine) : (e.loadWords).term = e.term := by simp only [Engine.loadWords]
@[simp] theorem Engine.loadWords_oph (e : Engine) : (e.loadWords).oph = e.oph := by simp only [Engine.loadWords]
@[simp] theorem Engine.loadWords_text (e : Engine) : (e.loadWords).text = e.text := by simp only [Engine.loadWords]
@[simp] theorem Engine.loadWords_name (e : Engine) : (e.loadWords).name = e.name := by simp only [Engine.loadWords]
@[simp] theorem Engine.loadWords_w64 (e : Engine) : (e.loadWords).w64 = e.w64 := by simp only [Engine.loadWords]
@[simp] theorem Engine.loadWords_msgLen (e : Engine) : (e.loadWords).msgLen = e.msgLen := by simp only [Engine.loadWords]
@[simp] theorem Engine.loadWords_keyLen (e : Engine) : (e.loadWords).keyLen = e.keyLen := by simp only [Engine.loadWords]
@[simp] theorem Engine.loadWords_mlen (e : Engine) : (e.loadWords).mlen = e.mlen := by simp only [Engine.loadWords]
@[simp] theorem Engine.loadWords_klen (e : Engine) : (e.loadWords).klen = e.klen := by simp only [Engine.loadWords]
@[simp] theorem Engine.loadWords_err (e : Engine) : (e.loadWords).err = e.err := by simp only [Engine.loadWords]
@[simp] theorem Engine.loadWords_rlen (e : Engine) : (e.loadWords).rlen = e.rlen := by simp only [Engine.loadWords]
@[simp] theorem Engine.loadWords_dlen (e : Engine) : (e.loadWords).dlen = e.dlen := by simp only [Engine.loadWords]
@[simp] theorem Engine.loadWords_olen (e : Engine) : (e.loadWords).olen = e.olen := by simp only [Engine.loadWords]
@[simp] theorem Engine.loadWords_obuf (e : Engine) : (e.loadWords).obuf = e.obuf := by simp only [Engine.loadWords]
@[simp] theorem Engine.loadWords_width (e : Engine) : (e.loadWords).width = e.width := by simp only [Engine.width, Engine.loadWords_name]
@[simp] theorem Engine.loadWords_blockSize (e : Engine) : (e.loadWords).blockSize = e.blockSize := by simp only [Engine.blockSize, Engine.loadWords_width]
@[simp] theorem Engine.loadWords_lenField (e : Engine) : (e.loadWords).lenField = e.lenField := by simp only [Engine.lenField, Engine.loadWords_width]
@[simp] theorem Engine.loadWords_rounds (e : Engine) : (e.loadWords).rounds = e.rounds := by simp only [Engine.rounds, Engine.loadWords_width]
@[simp] theorem Engine.loadWords_digestLength (e : Engine) : (e.loadWords).digestLength = e.digestLength := by simp only [Engine.digestLength, Engine.loadWords_name]
@[simp] theorem Engine.loadWords_digestWordCount (e : Engine) : (e.loadWords).digestWordCount = e.digestWordCount := by simp only [Engine.digestWordCount, Engine.loadWords_name]

/-! ## `Engine.schedule` (R202) -/

@[simp] theorem Engine.schedule_stage (e : Engine) : (e.schedule).stage = e.stage := by simp only [Engine.schedule]
@[simp] theorem Engine.schedule_phase (e : Engine) : (e.schedule).phase = e.phase := by simp only [Engine.schedule]
@[simp] theorem Engine.schedule_t (e : Engine) : (e.schedule).t = e.t := by simp only [Engine.schedule]
@[simp] theorem Engine.schedule_h (e : Engine) : (e.schedule).h = e.h := by simp only [Engine.schedule]
@[simp] theorem Engine.schedule_vars (e : Engine) : (e.schedule).vars = e.vars := by simp only [Engine.schedule]
@[simp] theorem Engine.schedule_w (e : Engine) : (e.schedule).w = expandSchedule e.width e.w (List.range' 16 (e.rounds - 16)) := by simp only [Engine.schedule]
@[simp] theorem Engine.schedule_blk (e : Engine) : (e.schedule).blk = e.blk := by simp only [Engine.schedule]
@[simp] theorem Engine.schedule_iblk (e : Engine) : (e.schedule).iblk = e.iblk := by simp only [Engine.schedule]
@[simp] theorem Engine.schedule_injv (e : Engine) : (e.schedule).injv = e.injv := by simp only [Engine.schedule]
@[simp] theorem Engine.schedule_keyblk (e : Engine) : (e.schedule).keyblk = e.keyblk := by simp only [Engine.schedule]
@[simp] theorem Engine.schedule_ikb (e : Engine) : (e.schedule).ikb = e.ikb := by simp only [Engine.schedule]
@[simp] theorem Engine.schedule_okb (e : Engine) : (e.schedule).okb = e.okb := by simp only [Engine.schedule]
@[simp] theorem Engine.schedule_dbuf (e : Engine) : (e.schedule).dbuf = e.dbuf := by simp only [Engine.schedule]
@[simp] theorem Engine.schedule_innerd (e : Engine) : (e.schedule).innerd = e.innerd := by simp only [Engine.schedule]
@[simp] theorem Engine.schedule_total (e : Engine) : (e.schedule).total = e.total := by simp only [Engine.schedule]
@[simp] theorem Engine.schedule_consumed (e : Engine) : (e.schedule).consumed = e.consumed := by simp only [Engine.schedule]
@[simp] theorem Engine.schedule_ra (e : Engine) : (e.schedule).ra = e.ra := by simp only [Engine.schedule]
@[simp] theorem Engine.schedule_rcvd (e : Engine) : (e.schedule).rcvd = e.rcvd := by simp only [Engine.schedule]
@[simp] theorem Engine.schedule_src (e : Engine) : (e.schedule).src = e.src := by simp only [Engine.schedule]
@[simp] theorem Engine.schedule_srcLen (e : Engine) : (e.schedule).srcLen = e.srcLen := by simp only [Engine.schedule]
@[simp] theorem Engine.schedule_ipos (e : Engine) : (e.schedule).ipos = e.ipos := by simp only [Engine.schedule]
@[simp] theorem Engine.schedule_term (e : Engine) : (e.schedule).term = e.term := by simp only [Engine.schedule]
@[simp] theorem Engine.schedule_oph (e : Engine) : (e.schedule).oph = e.oph := by simp only [Engine.schedule]
@[simp] theorem Engine.schedule_text (e : Engine) : (e.schedule).text = e.text := by simp only [Engine.schedule]
@[simp] theorem Engine.schedule_name (e : Engine) : (e.schedule).name = e.name := by simp only [Engine.schedule]
@[simp] theorem Engine.schedule_w64 (e : Engine) : (e.schedule).w64 = e.w64 := by simp only [Engine.schedule]
@[simp] theorem Engine.schedule_msgLen (e : Engine) : (e.schedule).msgLen = e.msgLen := by simp only [Engine.schedule]
@[simp] theorem Engine.schedule_keyLen (e : Engine) : (e.schedule).keyLen = e.keyLen := by simp only [Engine.schedule]
@[simp] theorem Engine.schedule_mlen (e : Engine) : (e.schedule).mlen = e.mlen := by simp only [Engine.schedule]
@[simp] theorem Engine.schedule_klen (e : Engine) : (e.schedule).klen = e.klen := by simp only [Engine.schedule]
@[simp] theorem Engine.schedule_err (e : Engine) : (e.schedule).err = e.err := by simp only [Engine.schedule]
@[simp] theorem Engine.schedule_rlen (e : Engine) : (e.schedule).rlen = e.rlen := by simp only [Engine.schedule]
@[simp] theorem Engine.schedule_dlen (e : Engine) : (e.schedule).dlen = e.dlen := by simp only [Engine.schedule]
@[simp] theorem Engine.schedule_olen (e : Engine) : (e.schedule).olen = e.olen := by simp only [Engine.schedule]
@[simp] theorem Engine.schedule_obuf (e : Engine) : (e.schedule).obuf = e.obuf := by simp only [Engine.schedule]
@[simp] theorem Engine.schedule_width (e : Engine) : (e.schedule).width = e.width := by simp only [Engine.width, Engine.schedule_name]
@[simp] theorem Engine.schedule_blockSize (e : Engine) : (e.schedule).blockSize = e.blockSize := by simp only [Engine.blockSize, Engine.schedule_width]
@[simp] theorem Engine.schedule_lenField (e : Engine) : (e.schedule).lenField = e.lenField := by simp only [Engine.lenField, Engine.schedule_width]
@[simp] theorem Engine.schedule_rounds (e : Engine) : (e.schedule).rounds = e.rounds := by simp only [Engine.rounds, Engine.schedule_width]
@[simp] theorem Engine.schedule_digestLength (e : Engine) : (e.schedule).digestLength = e.digestLength := by simp only [Engine.digestLength, Engine.schedule_name]
@[simp] theorem Engine.schedule_digestWordCount (e : Engine) : (e.schedule).digestWordCount = e.digestWordCount := by simp only [Engine.digestWordCount, Engine.schedule_name]

/-! ## `Engine.initVars` (R203) -/

@[simp] theorem Engine.initVars_stage (e : Engine) : (e.initVars).stage = e.stage := by simp only [Engine.initVars]
@[simp] theorem Engine.initVars_phase (e : Engine) : (e.initVars).phase = e.phase := by simp only [Engine.initVars]
@[simp] theorem Engine.initVars_t (e : Engine) : (e.initVars).t = 0 := by simp only [Engine.initVars]
@[simp] theorem Engine.initVars_h (e : Engine) : (e.initVars).h = e.h := by simp only [Engine.initVars]
@[simp] theorem Engine.initVars_vars (e : Engine) : (e.initVars).vars = ⟨e.h[0], e.h[1], e.h[2], e.h[3], e.h[4], e.h[5], e.h[6], e.h[7]⟩ := by simp only [Engine.initVars]
@[simp] theorem Engine.initVars_w (e : Engine) : (e.initVars).w = e.w := by simp only [Engine.initVars]
@[simp] theorem Engine.initVars_blk (e : Engine) : (e.initVars).blk = e.blk := by simp only [Engine.initVars]
@[simp] theorem Engine.initVars_iblk (e : Engine) : (e.initVars).iblk = e.iblk := by simp only [Engine.initVars]
@[simp] theorem Engine.initVars_injv (e : Engine) : (e.initVars).injv = e.injv := by simp only [Engine.initVars]
@[simp] theorem Engine.initVars_keyblk (e : Engine) : (e.initVars).keyblk = e.keyblk := by simp only [Engine.initVars]
@[simp] theorem Engine.initVars_ikb (e : Engine) : (e.initVars).ikb = e.ikb := by simp only [Engine.initVars]
@[simp] theorem Engine.initVars_okb (e : Engine) : (e.initVars).okb = e.okb := by simp only [Engine.initVars]
@[simp] theorem Engine.initVars_dbuf (e : Engine) : (e.initVars).dbuf = e.dbuf := by simp only [Engine.initVars]
@[simp] theorem Engine.initVars_innerd (e : Engine) : (e.initVars).innerd = e.innerd := by simp only [Engine.initVars]
@[simp] theorem Engine.initVars_total (e : Engine) : (e.initVars).total = e.total := by simp only [Engine.initVars]
@[simp] theorem Engine.initVars_consumed (e : Engine) : (e.initVars).consumed = e.consumed := by simp only [Engine.initVars]
@[simp] theorem Engine.initVars_ra (e : Engine) : (e.initVars).ra = e.ra := by simp only [Engine.initVars]
@[simp] theorem Engine.initVars_rcvd (e : Engine) : (e.initVars).rcvd = e.rcvd := by simp only [Engine.initVars]
@[simp] theorem Engine.initVars_src (e : Engine) : (e.initVars).src = e.src := by simp only [Engine.initVars]
@[simp] theorem Engine.initVars_srcLen (e : Engine) : (e.initVars).srcLen = e.srcLen := by simp only [Engine.initVars]
@[simp] theorem Engine.initVars_ipos (e : Engine) : (e.initVars).ipos = e.ipos := by simp only [Engine.initVars]
@[simp] theorem Engine.initVars_term (e : Engine) : (e.initVars).term = e.term := by simp only [Engine.initVars]
@[simp] theorem Engine.initVars_oph (e : Engine) : (e.initVars).oph = e.oph := by simp only [Engine.initVars]
@[simp] theorem Engine.initVars_text (e : Engine) : (e.initVars).text = e.text := by simp only [Engine.initVars]
@[simp] theorem Engine.initVars_name (e : Engine) : (e.initVars).name = e.name := by simp only [Engine.initVars]
@[simp] theorem Engine.initVars_w64 (e : Engine) : (e.initVars).w64 = e.w64 := by simp only [Engine.initVars]
@[simp] theorem Engine.initVars_msgLen (e : Engine) : (e.initVars).msgLen = e.msgLen := by simp only [Engine.initVars]
@[simp] theorem Engine.initVars_keyLen (e : Engine) : (e.initVars).keyLen = e.keyLen := by simp only [Engine.initVars]
@[simp] theorem Engine.initVars_mlen (e : Engine) : (e.initVars).mlen = e.mlen := by simp only [Engine.initVars]
@[simp] theorem Engine.initVars_klen (e : Engine) : (e.initVars).klen = e.klen := by simp only [Engine.initVars]
@[simp] theorem Engine.initVars_err (e : Engine) : (e.initVars).err = e.err := by simp only [Engine.initVars]
@[simp] theorem Engine.initVars_rlen (e : Engine) : (e.initVars).rlen = e.rlen := by simp only [Engine.initVars]
@[simp] theorem Engine.initVars_dlen (e : Engine) : (e.initVars).dlen = e.dlen := by simp only [Engine.initVars]
@[simp] theorem Engine.initVars_olen (e : Engine) : (e.initVars).olen = e.olen := by simp only [Engine.initVars]
@[simp] theorem Engine.initVars_obuf (e : Engine) : (e.initVars).obuf = e.obuf := by simp only [Engine.initVars]
@[simp] theorem Engine.initVars_width (e : Engine) : (e.initVars).width = e.width := by simp only [Engine.width, Engine.initVars_name]
@[simp] theorem Engine.initVars_blockSize (e : Engine) : (e.initVars).blockSize = e.blockSize := by simp only [Engine.blockSize, Engine.initVars_width]
@[simp] theorem Engine.initVars_lenField (e : Engine) : (e.initVars).lenField = e.lenField := by simp only [Engine.lenField, Engine.initVars_width]
@[simp] theorem Engine.initVars_rounds (e : Engine) : (e.initVars).rounds = e.rounds := by simp only [Engine.rounds, Engine.initVars_width]
@[simp] theorem Engine.initVars_digestLength (e : Engine) : (e.initVars).digestLength = e.digestLength := by simp only [Engine.digestLength, Engine.initVars_name]
@[simp] theorem Engine.initVars_digestWordCount (e : Engine) : (e.initVars).digestWordCount = e.digestWordCount := by simp only [Engine.digestWordCount, Engine.initVars_name]

/-! ## `Engine.round` (R204) -/

@[simp] theorem Engine.round_stage (e : Engine) : (e.round).stage = e.stage := by simp only [Engine.round]
@[simp] theorem Engine.round_phase (e : Engine) : (e.round).phase = e.phase := by simp only [Engine.round]
@[simp] theorem Engine.round_t (e : Engine) : (e.round).t = e.t + 1 := by simp only [Engine.round]
@[simp] theorem Engine.round_h (e : Engine) : (e.round).h = e.h := by simp only [Engine.round]
@[simp] theorem Engine.round_vars (e : Engine) : (e.round).vars = roundVars e.width e.vars (kconst e.width e.t) (scheduleWord e.w e.t.toNat) := by simp only [Engine.round]
@[simp] theorem Engine.round_w (e : Engine) : (e.round).w = e.w := by simp only [Engine.round]
@[simp] theorem Engine.round_blk (e : Engine) : (e.round).blk = e.blk := by simp only [Engine.round]
@[simp] theorem Engine.round_iblk (e : Engine) : (e.round).iblk = e.iblk := by simp only [Engine.round]
@[simp] theorem Engine.round_injv (e : Engine) : (e.round).injv = e.injv := by simp only [Engine.round]
@[simp] theorem Engine.round_keyblk (e : Engine) : (e.round).keyblk = e.keyblk := by simp only [Engine.round]
@[simp] theorem Engine.round_ikb (e : Engine) : (e.round).ikb = e.ikb := by simp only [Engine.round]
@[simp] theorem Engine.round_okb (e : Engine) : (e.round).okb = e.okb := by simp only [Engine.round]
@[simp] theorem Engine.round_dbuf (e : Engine) : (e.round).dbuf = e.dbuf := by simp only [Engine.round]
@[simp] theorem Engine.round_innerd (e : Engine) : (e.round).innerd = e.innerd := by simp only [Engine.round]
@[simp] theorem Engine.round_total (e : Engine) : (e.round).total = e.total := by simp only [Engine.round]
@[simp] theorem Engine.round_consumed (e : Engine) : (e.round).consumed = e.consumed := by simp only [Engine.round]
@[simp] theorem Engine.round_ra (e : Engine) : (e.round).ra = e.ra := by simp only [Engine.round]
@[simp] theorem Engine.round_rcvd (e : Engine) : (e.round).rcvd = e.rcvd := by simp only [Engine.round]
@[simp] theorem Engine.round_src (e : Engine) : (e.round).src = e.src := by simp only [Engine.round]
@[simp] theorem Engine.round_srcLen (e : Engine) : (e.round).srcLen = e.srcLen := by simp only [Engine.round]
@[simp] theorem Engine.round_ipos (e : Engine) : (e.round).ipos = e.ipos := by simp only [Engine.round]
@[simp] theorem Engine.round_term (e : Engine) : (e.round).term = e.term := by simp only [Engine.round]
@[simp] theorem Engine.round_oph (e : Engine) : (e.round).oph = e.oph := by simp only [Engine.round]
@[simp] theorem Engine.round_text (e : Engine) : (e.round).text = e.text := by simp only [Engine.round]
@[simp] theorem Engine.round_name (e : Engine) : (e.round).name = e.name := by simp only [Engine.round]
@[simp] theorem Engine.round_w64 (e : Engine) : (e.round).w64 = e.w64 := by simp only [Engine.round]
@[simp] theorem Engine.round_msgLen (e : Engine) : (e.round).msgLen = e.msgLen := by simp only [Engine.round]
@[simp] theorem Engine.round_keyLen (e : Engine) : (e.round).keyLen = e.keyLen := by simp only [Engine.round]
@[simp] theorem Engine.round_mlen (e : Engine) : (e.round).mlen = e.mlen := by simp only [Engine.round]
@[simp] theorem Engine.round_klen (e : Engine) : (e.round).klen = e.klen := by simp only [Engine.round]
@[simp] theorem Engine.round_err (e : Engine) : (e.round).err = e.err := by simp only [Engine.round]
@[simp] theorem Engine.round_rlen (e : Engine) : (e.round).rlen = e.rlen := by simp only [Engine.round]
@[simp] theorem Engine.round_dlen (e : Engine) : (e.round).dlen = e.dlen := by simp only [Engine.round]
@[simp] theorem Engine.round_olen (e : Engine) : (e.round).olen = e.olen := by simp only [Engine.round]
@[simp] theorem Engine.round_obuf (e : Engine) : (e.round).obuf = e.obuf := by simp only [Engine.round]
@[simp] theorem Engine.round_width (e : Engine) : (e.round).width = e.width := by simp only [Engine.width, Engine.round_name]
@[simp] theorem Engine.round_blockSize (e : Engine) : (e.round).blockSize = e.blockSize := by simp only [Engine.blockSize, Engine.round_width]
@[simp] theorem Engine.round_lenField (e : Engine) : (e.round).lenField = e.lenField := by simp only [Engine.lenField, Engine.round_width]
@[simp] theorem Engine.round_rounds (e : Engine) : (e.round).rounds = e.rounds := by simp only [Engine.rounds, Engine.round_width]
@[simp] theorem Engine.round_digestLength (e : Engine) : (e.round).digestLength = e.digestLength := by simp only [Engine.digestLength, Engine.round_name]
@[simp] theorem Engine.round_digestWordCount (e : Engine) : (e.round).digestWordCount = e.digestWordCount := by simp only [Engine.digestWordCount, Engine.round_name]

/-! ## `Engine.roundTimes` (R204) -/

@[simp] theorem Engine.roundTimes_stage (n : Nat) (e : Engine) : (Engine.roundTimes n e).stage = e.stage := by
  induction n generalizing e with
  | zero => rfl
  | succ n ih => simp [Engine.roundTimes, ih]
@[simp] theorem Engine.roundTimes_phase (n : Nat) (e : Engine) : (Engine.roundTimes n e).phase = e.phase := by
  induction n generalizing e with
  | zero => rfl
  | succ n ih => simp [Engine.roundTimes, ih]
@[simp] theorem Engine.roundTimes_h (n : Nat) (e : Engine) : (Engine.roundTimes n e).h = e.h := by
  induction n generalizing e with
  | zero => rfl
  | succ n ih => simp [Engine.roundTimes, ih]
@[simp] theorem Engine.roundTimes_w (n : Nat) (e : Engine) : (Engine.roundTimes n e).w = e.w := by
  induction n generalizing e with
  | zero => rfl
  | succ n ih => simp [Engine.roundTimes, ih]
@[simp] theorem Engine.roundTimes_blk (n : Nat) (e : Engine) : (Engine.roundTimes n e).blk = e.blk := by
  induction n generalizing e with
  | zero => rfl
  | succ n ih => simp [Engine.roundTimes, ih]
@[simp] theorem Engine.roundTimes_iblk (n : Nat) (e : Engine) : (Engine.roundTimes n e).iblk = e.iblk := by
  induction n generalizing e with
  | zero => rfl
  | succ n ih => simp [Engine.roundTimes, ih]
@[simp] theorem Engine.roundTimes_injv (n : Nat) (e : Engine) : (Engine.roundTimes n e).injv = e.injv := by
  induction n generalizing e with
  | zero => rfl
  | succ n ih => simp [Engine.roundTimes, ih]
@[simp] theorem Engine.roundTimes_keyblk (n : Nat) (e : Engine) : (Engine.roundTimes n e).keyblk = e.keyblk := by
  induction n generalizing e with
  | zero => rfl
  | succ n ih => simp [Engine.roundTimes, ih]
@[simp] theorem Engine.roundTimes_ikb (n : Nat) (e : Engine) : (Engine.roundTimes n e).ikb = e.ikb := by
  induction n generalizing e with
  | zero => rfl
  | succ n ih => simp [Engine.roundTimes, ih]
@[simp] theorem Engine.roundTimes_okb (n : Nat) (e : Engine) : (Engine.roundTimes n e).okb = e.okb := by
  induction n generalizing e with
  | zero => rfl
  | succ n ih => simp [Engine.roundTimes, ih]
@[simp] theorem Engine.roundTimes_dbuf (n : Nat) (e : Engine) : (Engine.roundTimes n e).dbuf = e.dbuf := by
  induction n generalizing e with
  | zero => rfl
  | succ n ih => simp [Engine.roundTimes, ih]
@[simp] theorem Engine.roundTimes_innerd (n : Nat) (e : Engine) : (Engine.roundTimes n e).innerd = e.innerd := by
  induction n generalizing e with
  | zero => rfl
  | succ n ih => simp [Engine.roundTimes, ih]
@[simp] theorem Engine.roundTimes_total (n : Nat) (e : Engine) : (Engine.roundTimes n e).total = e.total := by
  induction n generalizing e with
  | zero => rfl
  | succ n ih => simp [Engine.roundTimes, ih]
@[simp] theorem Engine.roundTimes_consumed (n : Nat) (e : Engine) : (Engine.roundTimes n e).consumed = e.consumed := by
  induction n generalizing e with
  | zero => rfl
  | succ n ih => simp [Engine.roundTimes, ih]
@[simp] theorem Engine.roundTimes_ra (n : Nat) (e : Engine) : (Engine.roundTimes n e).ra = e.ra := by
  induction n generalizing e with
  | zero => rfl
  | succ n ih => simp [Engine.roundTimes, ih]
@[simp] theorem Engine.roundTimes_rcvd (n : Nat) (e : Engine) : (Engine.roundTimes n e).rcvd = e.rcvd := by
  induction n generalizing e with
  | zero => rfl
  | succ n ih => simp [Engine.roundTimes, ih]
@[simp] theorem Engine.roundTimes_src (n : Nat) (e : Engine) : (Engine.roundTimes n e).src = e.src := by
  induction n generalizing e with
  | zero => rfl
  | succ n ih => simp [Engine.roundTimes, ih]
@[simp] theorem Engine.roundTimes_srcLen (n : Nat) (e : Engine) : (Engine.roundTimes n e).srcLen = e.srcLen := by
  induction n generalizing e with
  | zero => rfl
  | succ n ih => simp [Engine.roundTimes, ih]
@[simp] theorem Engine.roundTimes_ipos (n : Nat) (e : Engine) : (Engine.roundTimes n e).ipos = e.ipos := by
  induction n generalizing e with
  | zero => rfl
  | succ n ih => simp [Engine.roundTimes, ih]
@[simp] theorem Engine.roundTimes_term (n : Nat) (e : Engine) : (Engine.roundTimes n e).term = e.term := by
  induction n generalizing e with
  | zero => rfl
  | succ n ih => simp [Engine.roundTimes, ih]
@[simp] theorem Engine.roundTimes_oph (n : Nat) (e : Engine) : (Engine.roundTimes n e).oph = e.oph := by
  induction n generalizing e with
  | zero => rfl
  | succ n ih => simp [Engine.roundTimes, ih]
@[simp] theorem Engine.roundTimes_text (n : Nat) (e : Engine) : (Engine.roundTimes n e).text = e.text := by
  induction n generalizing e with
  | zero => rfl
  | succ n ih => simp [Engine.roundTimes, ih]
@[simp] theorem Engine.roundTimes_name (n : Nat) (e : Engine) : (Engine.roundTimes n e).name = e.name := by
  induction n generalizing e with
  | zero => rfl
  | succ n ih => simp [Engine.roundTimes, ih]
@[simp] theorem Engine.roundTimes_w64 (n : Nat) (e : Engine) : (Engine.roundTimes n e).w64 = e.w64 := by
  induction n generalizing e with
  | zero => rfl
  | succ n ih => simp [Engine.roundTimes, ih]
@[simp] theorem Engine.roundTimes_msgLen (n : Nat) (e : Engine) : (Engine.roundTimes n e).msgLen = e.msgLen := by
  induction n generalizing e with
  | zero => rfl
  | succ n ih => simp [Engine.roundTimes, ih]
@[simp] theorem Engine.roundTimes_keyLen (n : Nat) (e : Engine) : (Engine.roundTimes n e).keyLen = e.keyLen := by
  induction n generalizing e with
  | zero => rfl
  | succ n ih => simp [Engine.roundTimes, ih]
@[simp] theorem Engine.roundTimes_mlen (n : Nat) (e : Engine) : (Engine.roundTimes n e).mlen = e.mlen := by
  induction n generalizing e with
  | zero => rfl
  | succ n ih => simp [Engine.roundTimes, ih]
@[simp] theorem Engine.roundTimes_klen (n : Nat) (e : Engine) : (Engine.roundTimes n e).klen = e.klen := by
  induction n generalizing e with
  | zero => rfl
  | succ n ih => simp [Engine.roundTimes, ih]
@[simp] theorem Engine.roundTimes_err (n : Nat) (e : Engine) : (Engine.roundTimes n e).err = e.err := by
  induction n generalizing e with
  | zero => rfl
  | succ n ih => simp [Engine.roundTimes, ih]
@[simp] theorem Engine.roundTimes_rlen (n : Nat) (e : Engine) : (Engine.roundTimes n e).rlen = e.rlen := by
  induction n generalizing e with
  | zero => rfl
  | succ n ih => simp [Engine.roundTimes, ih]
@[simp] theorem Engine.roundTimes_dlen (n : Nat) (e : Engine) : (Engine.roundTimes n e).dlen = e.dlen := by
  induction n generalizing e with
  | zero => rfl
  | succ n ih => simp [Engine.roundTimes, ih]
@[simp] theorem Engine.roundTimes_olen (n : Nat) (e : Engine) : (Engine.roundTimes n e).olen = e.olen := by
  induction n generalizing e with
  | zero => rfl
  | succ n ih => simp [Engine.roundTimes, ih]
@[simp] theorem Engine.roundTimes_obuf (n : Nat) (e : Engine) : (Engine.roundTimes n e).obuf = e.obuf := by
  induction n generalizing e with
  | zero => rfl
  | succ n ih => simp [Engine.roundTimes, ih]
@[simp] theorem Engine.roundTimes_width (n : Nat) (e : Engine) : (Engine.roundTimes n e).width = e.width := by simp only [Engine.width, Engine.roundTimes_name]
@[simp] theorem Engine.roundTimes_rounds (n : Nat) (e : Engine) : (Engine.roundTimes n e).rounds = e.rounds := by simp only [Engine.rounds, Engine.roundTimes_width]

/-! ## `Engine.fold` (R205) -/

@[simp] theorem Engine.fold_stage (e : Engine) : (e.fold).stage = e.stage := by simp only [Engine.fold]
@[simp] theorem Engine.fold_phase (e : Engine) : (e.fold).phase = e.phase := by simp only [Engine.fold]
@[simp] theorem Engine.fold_t (e : Engine) : (e.fold).t = e.t := by simp only [Engine.fold]
@[simp] theorem Engine.fold_vars (e : Engine) : (e.fold).vars = e.vars := by simp only [Engine.fold]
@[simp] theorem Engine.fold_w (e : Engine) : (e.fold).w = e.w := by simp only [Engine.fold]
@[simp] theorem Engine.fold_blk (e : Engine) : (e.fold).blk = e.blk := by simp only [Engine.fold]
@[simp] theorem Engine.fold_iblk (e : Engine) : (e.fold).iblk = e.iblk := by simp only [Engine.fold]
@[simp] theorem Engine.fold_injv (e : Engine) : (e.fold).injv = e.injv := by simp only [Engine.fold]
@[simp] theorem Engine.fold_keyblk (e : Engine) : (e.fold).keyblk = e.keyblk := by simp only [Engine.fold]
@[simp] theorem Engine.fold_ikb (e : Engine) : (e.fold).ikb = e.ikb := by simp only [Engine.fold]
@[simp] theorem Engine.fold_okb (e : Engine) : (e.fold).okb = e.okb := by simp only [Engine.fold]
@[simp] theorem Engine.fold_dbuf (e : Engine) : (e.fold).dbuf = e.dbuf := by simp only [Engine.fold]
@[simp] theorem Engine.fold_innerd (e : Engine) : (e.fold).innerd = e.innerd := by simp only [Engine.fold]
@[simp] theorem Engine.fold_total (e : Engine) : (e.fold).total = e.total := by simp only [Engine.fold]
@[simp] theorem Engine.fold_consumed (e : Engine) : (e.fold).consumed = e.consumed := by simp only [Engine.fold]
@[simp] theorem Engine.fold_ra (e : Engine) : (e.fold).ra = e.ra := by simp only [Engine.fold]
@[simp] theorem Engine.fold_rcvd (e : Engine) : (e.fold).rcvd = e.rcvd := by simp only [Engine.fold]
@[simp] theorem Engine.fold_src (e : Engine) : (e.fold).src = e.src := by simp only [Engine.fold]
@[simp] theorem Engine.fold_srcLen (e : Engine) : (e.fold).srcLen = e.srcLen := by simp only [Engine.fold]
@[simp] theorem Engine.fold_ipos (e : Engine) : (e.fold).ipos = e.ipos := by simp only [Engine.fold]
@[simp] theorem Engine.fold_term (e : Engine) : (e.fold).term = e.term := by simp only [Engine.fold]
@[simp] theorem Engine.fold_oph (e : Engine) : (e.fold).oph = e.oph := by simp only [Engine.fold]
@[simp] theorem Engine.fold_text (e : Engine) : (e.fold).text = e.text := by simp only [Engine.fold]
@[simp] theorem Engine.fold_name (e : Engine) : (e.fold).name = e.name := by simp only [Engine.fold]
@[simp] theorem Engine.fold_w64 (e : Engine) : (e.fold).w64 = e.w64 := by simp only [Engine.fold]
@[simp] theorem Engine.fold_msgLen (e : Engine) : (e.fold).msgLen = e.msgLen := by simp only [Engine.fold]
@[simp] theorem Engine.fold_keyLen (e : Engine) : (e.fold).keyLen = e.keyLen := by simp only [Engine.fold]
@[simp] theorem Engine.fold_mlen (e : Engine) : (e.fold).mlen = e.mlen := by simp only [Engine.fold]
@[simp] theorem Engine.fold_klen (e : Engine) : (e.fold).klen = e.klen := by simp only [Engine.fold]
@[simp] theorem Engine.fold_err (e : Engine) : (e.fold).err = e.err := by simp only [Engine.fold]
@[simp] theorem Engine.fold_rlen (e : Engine) : (e.fold).rlen = e.rlen := by simp only [Engine.fold]
@[simp] theorem Engine.fold_dlen (e : Engine) : (e.fold).dlen = e.dlen := by simp only [Engine.fold]
@[simp] theorem Engine.fold_olen (e : Engine) : (e.fold).olen = e.olen := by simp only [Engine.fold]
@[simp] theorem Engine.fold_obuf (e : Engine) : (e.fold).obuf = e.obuf := by simp only [Engine.fold]
@[simp] theorem Engine.fold_width (e : Engine) : (e.fold).width = e.width := by simp only [Engine.width, Engine.fold_name]
@[simp] theorem Engine.fold_blockSize (e : Engine) : (e.fold).blockSize = e.blockSize := by simp only [Engine.blockSize, Engine.fold_width]
@[simp] theorem Engine.fold_lenField (e : Engine) : (e.fold).lenField = e.lenField := by simp only [Engine.lenField, Engine.fold_width]
@[simp] theorem Engine.fold_rounds (e : Engine) : (e.fold).rounds = e.rounds := by simp only [Engine.rounds, Engine.fold_width]
@[simp] theorem Engine.fold_digestLength (e : Engine) : (e.fold).digestLength = e.digestLength := by simp only [Engine.digestLength, Engine.fold_name]
@[simp] theorem Engine.fold_digestWordCount (e : Engine) : (e.fold).digestWordCount = e.digestWordCount := by simp only [Engine.digestWordCount, Engine.fold_name]

/-! ## `Engine.compress` (R206) -/

@[simp] theorem Engine.compress_stage (e : Engine) : (e.compress).stage = e.stage := by simp [Engine.compress]
@[simp] theorem Engine.compress_phase (e : Engine) : (e.compress).phase = e.phase := by simp [Engine.compress]
@[simp] theorem Engine.compress_blk (e : Engine) : (e.compress).blk = e.blk := by simp [Engine.compress]
@[simp] theorem Engine.compress_iblk (e : Engine) : (e.compress).iblk = e.iblk := by simp [Engine.compress]
@[simp] theorem Engine.compress_injv (e : Engine) : (e.compress).injv = e.injv := by simp [Engine.compress]
@[simp] theorem Engine.compress_keyblk (e : Engine) : (e.compress).keyblk = e.keyblk := by simp [Engine.compress]
@[simp] theorem Engine.compress_ikb (e : Engine) : (e.compress).ikb = e.ikb := by simp [Engine.compress]
@[simp] theorem Engine.compress_okb (e : Engine) : (e.compress).okb = e.okb := by simp [Engine.compress]
@[simp] theorem Engine.compress_dbuf (e : Engine) : (e.compress).dbuf = e.dbuf := by simp [Engine.compress]
@[simp] theorem Engine.compress_innerd (e : Engine) : (e.compress).innerd = e.innerd := by simp [Engine.compress]
@[simp] theorem Engine.compress_total (e : Engine) : (e.compress).total = e.total := by simp [Engine.compress]
@[simp] theorem Engine.compress_consumed (e : Engine) : (e.compress).consumed = e.consumed := by simp [Engine.compress]
@[simp] theorem Engine.compress_ra (e : Engine) : (e.compress).ra = e.ra := by simp [Engine.compress]
@[simp] theorem Engine.compress_rcvd (e : Engine) : (e.compress).rcvd = e.rcvd := by simp [Engine.compress]
@[simp] theorem Engine.compress_src (e : Engine) : (e.compress).src = e.src := by simp [Engine.compress]
@[simp] theorem Engine.compress_srcLen (e : Engine) : (e.compress).srcLen = e.srcLen := by simp [Engine.compress]
@[simp] theorem Engine.compress_ipos (e : Engine) : (e.compress).ipos = e.ipos := by simp [Engine.compress]
@[simp] theorem Engine.compress_term (e : Engine) : (e.compress).term = e.term := by simp [Engine.compress]
@[simp] theorem Engine.compress_oph (e : Engine) : (e.compress).oph = e.oph := by simp [Engine.compress]
@[simp] theorem Engine.compress_text (e : Engine) : (e.compress).text = e.text := by simp [Engine.compress]
@[simp] theorem Engine.compress_name (e : Engine) : (e.compress).name = e.name := by simp [Engine.compress]
@[simp] theorem Engine.compress_w64 (e : Engine) : (e.compress).w64 = e.w64 := by simp [Engine.compress]
@[simp] theorem Engine.compress_msgLen (e : Engine) : (e.compress).msgLen = e.msgLen := by simp [Engine.compress]
@[simp] theorem Engine.compress_keyLen (e : Engine) : (e.compress).keyLen = e.keyLen := by simp [Engine.compress]
@[simp] theorem Engine.compress_mlen (e : Engine) : (e.compress).mlen = e.mlen := by simp [Engine.compress]
@[simp] theorem Engine.compress_klen (e : Engine) : (e.compress).klen = e.klen := by simp [Engine.compress]
@[simp] theorem Engine.compress_err (e : Engine) : (e.compress).err = e.err := by simp [Engine.compress]
@[simp] theorem Engine.compress_rlen (e : Engine) : (e.compress).rlen = e.rlen := by simp [Engine.compress]
@[simp] theorem Engine.compress_dlen (e : Engine) : (e.compress).dlen = e.dlen := by simp [Engine.compress]
@[simp] theorem Engine.compress_olen (e : Engine) : (e.compress).olen = e.olen := by simp [Engine.compress]
@[simp] theorem Engine.compress_obuf (e : Engine) : (e.compress).obuf = e.obuf := by simp [Engine.compress]
@[simp] theorem Engine.compress_width (e : Engine) : (e.compress).width = e.width := by simp only [Engine.width, Engine.compress_name]
@[simp] theorem Engine.compress_blockSize (e : Engine) : (e.compress).blockSize = e.blockSize := by simp only [Engine.blockSize, Engine.compress_width]
@[simp] theorem Engine.compress_lenField (e : Engine) : (e.compress).lenField = e.lenField := by simp only [Engine.lenField, Engine.compress_width]
@[simp] theorem Engine.compress_rounds (e : Engine) : (e.compress).rounds = e.rounds := by simp only [Engine.rounds, Engine.compress_width]
@[simp] theorem Engine.compress_digestLength (e : Engine) : (e.compress).digestLength = e.digestLength := by simp only [Engine.digestLength, Engine.compress_name]
@[simp] theorem Engine.compress_digestWordCount (e : Engine) : (e.compress).digestWordCount = e.digestWordCount := by simp only [Engine.digestWordCount, Engine.compress_name]

/-! ## `Engine.compressBlock` (R206) -/

@[simp] theorem Engine.compressBlock_stage (e : Engine) : (e.compressBlock).stage = e.stage := by simp [Engine.compressBlock]
@[simp] theorem Engine.compressBlock_phase (e : Engine) : (e.compressBlock).phase = if e.term then .format else .assemble := by simp [Engine.compressBlock]
@[simp] theorem Engine.compressBlock_t (e : Engine) : (e.compressBlock).t = e.compress.t := by simp [Engine.compressBlock]
@[simp] theorem Engine.compressBlock_h (e : Engine) : (e.compressBlock).h = e.compress.h := by simp [Engine.compressBlock]
@[simp] theorem Engine.compressBlock_vars (e : Engine) : (e.compressBlock).vars = e.compress.vars := by simp [Engine.compressBlock]
@[simp] theorem Engine.compressBlock_w (e : Engine) : (e.compressBlock).w = e.compress.w := by simp [Engine.compressBlock]
@[simp] theorem Engine.compressBlock_blk (e : Engine) : (e.compressBlock).blk = e.blk := by simp [Engine.compressBlock]
@[simp] theorem Engine.compressBlock_iblk (e : Engine) : (e.compressBlock).iblk = e.iblk := by simp [Engine.compressBlock]
@[simp] theorem Engine.compressBlock_injv (e : Engine) : (e.compressBlock).injv = e.injv := by simp [Engine.compressBlock]
@[simp] theorem Engine.compressBlock_keyblk (e : Engine) : (e.compressBlock).keyblk = e.keyblk := by simp [Engine.compressBlock]
@[simp] theorem Engine.compressBlock_ikb (e : Engine) : (e.compressBlock).ikb = e.ikb := by simp [Engine.compressBlock]
@[simp] theorem Engine.compressBlock_okb (e : Engine) : (e.compressBlock).okb = e.okb := by simp [Engine.compressBlock]
@[simp] theorem Engine.compressBlock_dbuf (e : Engine) : (e.compressBlock).dbuf = e.dbuf := by simp [Engine.compressBlock]
@[simp] theorem Engine.compressBlock_innerd (e : Engine) : (e.compressBlock).innerd = e.innerd := by simp [Engine.compressBlock]
@[simp] theorem Engine.compressBlock_total (e : Engine) : (e.compressBlock).total = e.total := by simp [Engine.compressBlock]
@[simp] theorem Engine.compressBlock_consumed (e : Engine) : (e.compressBlock).consumed = e.consumed := by simp [Engine.compressBlock]
@[simp] theorem Engine.compressBlock_ra (e : Engine) : (e.compressBlock).ra = e.ra := by simp [Engine.compressBlock]
@[simp] theorem Engine.compressBlock_rcvd (e : Engine) : (e.compressBlock).rcvd = e.rcvd := by simp [Engine.compressBlock]
@[simp] theorem Engine.compressBlock_src (e : Engine) : (e.compressBlock).src = e.src := by simp [Engine.compressBlock]
@[simp] theorem Engine.compressBlock_srcLen (e : Engine) : (e.compressBlock).srcLen = e.srcLen := by simp [Engine.compressBlock]
@[simp] theorem Engine.compressBlock_ipos (e : Engine) : (e.compressBlock).ipos = e.ipos := by simp [Engine.compressBlock]
@[simp] theorem Engine.compressBlock_term (e : Engine) : (e.compressBlock).term = e.term := by simp [Engine.compressBlock]
@[simp] theorem Engine.compressBlock_oph (e : Engine) : (e.compressBlock).oph = e.oph := by simp [Engine.compressBlock]
@[simp] theorem Engine.compressBlock_text (e : Engine) : (e.compressBlock).text = e.text := by simp [Engine.compressBlock]
@[simp] theorem Engine.compressBlock_name (e : Engine) : (e.compressBlock).name = e.name := by simp [Engine.compressBlock]
@[simp] theorem Engine.compressBlock_w64 (e : Engine) : (e.compressBlock).w64 = e.w64 := by simp [Engine.compressBlock]
@[simp] theorem Engine.compressBlock_msgLen (e : Engine) : (e.compressBlock).msgLen = e.msgLen := by simp [Engine.compressBlock]
@[simp] theorem Engine.compressBlock_keyLen (e : Engine) : (e.compressBlock).keyLen = e.keyLen := by simp [Engine.compressBlock]
@[simp] theorem Engine.compressBlock_mlen (e : Engine) : (e.compressBlock).mlen = e.mlen := by simp [Engine.compressBlock]
@[simp] theorem Engine.compressBlock_klen (e : Engine) : (e.compressBlock).klen = e.klen := by simp [Engine.compressBlock]
@[simp] theorem Engine.compressBlock_err (e : Engine) : (e.compressBlock).err = e.err := by simp [Engine.compressBlock]
@[simp] theorem Engine.compressBlock_rlen (e : Engine) : (e.compressBlock).rlen = e.rlen := by simp [Engine.compressBlock]
@[simp] theorem Engine.compressBlock_dlen (e : Engine) : (e.compressBlock).dlen = e.dlen := by simp [Engine.compressBlock]
@[simp] theorem Engine.compressBlock_olen (e : Engine) : (e.compressBlock).olen = e.olen := by simp [Engine.compressBlock]
@[simp] theorem Engine.compressBlock_obuf (e : Engine) : (e.compressBlock).obuf = e.obuf := by simp [Engine.compressBlock]
@[simp] theorem Engine.compressBlock_width (e : Engine) : (e.compressBlock).width = e.width := by simp only [Engine.width, Engine.compressBlock_name]
@[simp] theorem Engine.compressBlock_blockSize (e : Engine) : (e.compressBlock).blockSize = e.blockSize := by simp only [Engine.blockSize, Engine.compressBlock_width]
@[simp] theorem Engine.compressBlock_lenField (e : Engine) : (e.compressBlock).lenField = e.lenField := by simp only [Engine.lenField, Engine.compressBlock_width]
@[simp] theorem Engine.compressBlock_rounds (e : Engine) : (e.compressBlock).rounds = e.rounds := by simp only [Engine.rounds, Engine.compressBlock_width]
@[simp] theorem Engine.compressBlock_digestLength (e : Engine) : (e.compressBlock).digestLength = e.digestLength := by simp only [Engine.digestLength, Engine.compressBlock_name]
@[simp] theorem Engine.compressBlock_digestWordCount (e : Engine) : (e.compressBlock).digestWordCount = e.digestWordCount := by simp only [Engine.digestWordCount, Engine.compressBlock_name]

/-! ## `Engine.runInit` (R259) -/

@[simp] theorem Engine.runInit_stage (e : Engine) : (e.runInit).stage = e.stage := by simp only [Engine.runInit]
@[simp] theorem Engine.runInit_phase (e : Engine) : (e.runInit).phase = .assemble := by simp only [Engine.runInit]
@[simp] theorem Engine.runInit_t (e : Engine) : (e.runInit).t = e.t := by simp only [Engine.runInit]
@[simp] theorem Engine.runInit_h (e : Engine) : (e.runInit).h = iv e.name := by simp only [Engine.runInit]
@[simp] theorem Engine.runInit_vars (e : Engine) : (e.runInit).vars = e.vars := by simp only [Engine.runInit]
@[simp] theorem Engine.runInit_w (e : Engine) : (e.runInit).w = e.w := by simp only [Engine.runInit]
@[simp] theorem Engine.runInit_blk (e : Engine) : (e.runInit).blk = e.blk := by simp only [Engine.runInit]
@[simp] theorem Engine.runInit_iblk (e : Engine) : (e.runInit).iblk = e.iblk := by simp only [Engine.runInit]
@[simp] theorem Engine.runInit_injv (e : Engine) : (e.runInit).injv = e.injv := by simp only [Engine.runInit]
@[simp] theorem Engine.runInit_keyblk (e : Engine) : (e.runInit).keyblk = e.keyblk := by simp only [Engine.runInit]
@[simp] theorem Engine.runInit_ikb (e : Engine) : (e.runInit).ikb = e.ikb := by simp only [Engine.runInit]
@[simp] theorem Engine.runInit_okb (e : Engine) : (e.runInit).okb = e.okb := by simp only [Engine.runInit]
@[simp] theorem Engine.runInit_dbuf (e : Engine) : (e.runInit).dbuf = e.dbuf := by simp only [Engine.runInit]
@[simp] theorem Engine.runInit_innerd (e : Engine) : (e.runInit).innerd = e.innerd := by simp only [Engine.runInit]
@[simp] theorem Engine.runInit_total (e : Engine) : (e.runInit).total = e.srcLen.setWidth 65 := by simp only [Engine.runInit]
@[simp] theorem Engine.runInit_consumed (e : Engine) : (e.runInit).consumed = 0 := by simp only [Engine.runInit]
@[simp] theorem Engine.runInit_ra (e : Engine) : (e.runInit).ra = e.ra := by simp only [Engine.runInit]
@[simp] theorem Engine.runInit_rcvd (e : Engine) : (e.runInit).rcvd = e.rcvd := by simp only [Engine.runInit]
@[simp] theorem Engine.runInit_src (e : Engine) : (e.runInit).src = e.src := by simp only [Engine.runInit]
@[simp] theorem Engine.runInit_srcLen (e : Engine) : (e.runInit).srcLen = e.srcLen := by simp only [Engine.runInit]
@[simp] theorem Engine.runInit_ipos (e : Engine) : (e.runInit).ipos = e.ipos := by simp only [Engine.runInit]
@[simp] theorem Engine.runInit_term (e : Engine) : (e.runInit).term = false := by simp only [Engine.runInit]
@[simp] theorem Engine.runInit_oph (e : Engine) : (e.runInit).oph = e.oph := by simp only [Engine.runInit]
@[simp] theorem Engine.runInit_text (e : Engine) : (e.runInit).text = e.text := by simp only [Engine.runInit]
@[simp] theorem Engine.runInit_name (e : Engine) : (e.runInit).name = e.name := by simp only [Engine.runInit]
@[simp] theorem Engine.runInit_w64 (e : Engine) : (e.runInit).w64 = e.w64 := by simp only [Engine.runInit]
@[simp] theorem Engine.runInit_msgLen (e : Engine) : (e.runInit).msgLen = e.msgLen := by simp only [Engine.runInit]
@[simp] theorem Engine.runInit_keyLen (e : Engine) : (e.runInit).keyLen = e.keyLen := by simp only [Engine.runInit]
@[simp] theorem Engine.runInit_mlen (e : Engine) : (e.runInit).mlen = e.mlen := by simp only [Engine.runInit]
@[simp] theorem Engine.runInit_klen (e : Engine) : (e.runInit).klen = e.klen := by simp only [Engine.runInit]
@[simp] theorem Engine.runInit_err (e : Engine) : (e.runInit).err = e.err := by simp only [Engine.runInit]
@[simp] theorem Engine.runInit_rlen (e : Engine) : (e.runInit).rlen = e.rlen := by simp only [Engine.runInit]
@[simp] theorem Engine.runInit_dlen (e : Engine) : (e.runInit).dlen = e.dlen := by simp only [Engine.runInit]
@[simp] theorem Engine.runInit_olen (e : Engine) : (e.runInit).olen = e.olen := by simp only [Engine.runInit]
@[simp] theorem Engine.runInit_obuf (e : Engine) : (e.runInit).obuf = e.obuf := by simp only [Engine.runInit]
@[simp] theorem Engine.runInit_width (e : Engine) : (e.runInit).width = e.width := by simp only [Engine.width, Engine.runInit_name]
@[simp] theorem Engine.runInit_blockSize (e : Engine) : (e.runInit).blockSize = e.blockSize := by simp only [Engine.blockSize, Engine.runInit_width]
@[simp] theorem Engine.runInit_lenField (e : Engine) : (e.runInit).lenField = e.lenField := by simp only [Engine.lenField, Engine.runInit_width]
@[simp] theorem Engine.runInit_rounds (e : Engine) : (e.runInit).rounds = e.rounds := by simp only [Engine.rounds, Engine.runInit_width]
@[simp] theorem Engine.runInit_digestLength (e : Engine) : (e.runInit).digestLength = e.digestLength := by simp only [Engine.digestLength, Engine.runInit_name]
@[simp] theorem Engine.runInit_digestWordCount (e : Engine) : (e.runInit).digestWordCount = e.digestWordCount := by simp only [Engine.digestWordCount, Engine.runInit_name]

/-! ## `Engine.formatRaw` (R221) -/

@[simp] theorem Engine.formatRaw_stage (e : Engine) : (e.formatRaw).stage = e.stage := by simp only [Engine.formatRaw]
@[simp] theorem Engine.formatRaw_phase (e : Engine) : (e.formatRaw).phase = e.phase := by simp only [Engine.formatRaw]
@[simp] theorem Engine.formatRaw_t (e : Engine) : (e.formatRaw).t = e.t := by simp only [Engine.formatRaw]
@[simp] theorem Engine.formatRaw_h (e : Engine) : (e.formatRaw).h = e.h := by simp only [Engine.formatRaw]
@[simp] theorem Engine.formatRaw_vars (e : Engine) : (e.formatRaw).vars = e.vars := by simp only [Engine.formatRaw]
@[simp] theorem Engine.formatRaw_w (e : Engine) : (e.formatRaw).w = e.w := by simp only [Engine.formatRaw]
@[simp] theorem Engine.formatRaw_blk (e : Engine) : (e.formatRaw).blk = e.blk := by simp only [Engine.formatRaw]
@[simp] theorem Engine.formatRaw_iblk (e : Engine) : (e.formatRaw).iblk = e.iblk := by simp only [Engine.formatRaw]
@[simp] theorem Engine.formatRaw_injv (e : Engine) : (e.formatRaw).injv = e.injv := by simp only [Engine.formatRaw]
@[simp] theorem Engine.formatRaw_keyblk (e : Engine) : (e.formatRaw).keyblk = e.keyblk := by simp only [Engine.formatRaw]
@[simp] theorem Engine.formatRaw_ikb (e : Engine) : (e.formatRaw).ikb = e.ikb := by simp only [Engine.formatRaw]
@[simp] theorem Engine.formatRaw_okb (e : Engine) : (e.formatRaw).okb = e.okb := by simp only [Engine.formatRaw]
@[simp] theorem Engine.formatRaw_dbuf (e : Engine) : (e.formatRaw).dbuf = zeroFilled 64 (e.stateBytes.take e.digestLength) := by simp only [Engine.formatRaw]
@[simp] theorem Engine.formatRaw_innerd (e : Engine) : (e.formatRaw).innerd = e.innerd := by simp only [Engine.formatRaw]
@[simp] theorem Engine.formatRaw_total (e : Engine) : (e.formatRaw).total = e.total := by simp only [Engine.formatRaw]
@[simp] theorem Engine.formatRaw_consumed (e : Engine) : (e.formatRaw).consumed = e.consumed := by simp only [Engine.formatRaw]
@[simp] theorem Engine.formatRaw_ra (e : Engine) : (e.formatRaw).ra = e.ra := by simp only [Engine.formatRaw]
@[simp] theorem Engine.formatRaw_rcvd (e : Engine) : (e.formatRaw).rcvd = e.rcvd := by simp only [Engine.formatRaw]
@[simp] theorem Engine.formatRaw_src (e : Engine) : (e.formatRaw).src = e.src := by simp only [Engine.formatRaw]
@[simp] theorem Engine.formatRaw_srcLen (e : Engine) : (e.formatRaw).srcLen = e.srcLen := by simp only [Engine.formatRaw]
@[simp] theorem Engine.formatRaw_ipos (e : Engine) : (e.formatRaw).ipos = e.ipos := by simp only [Engine.formatRaw]
@[simp] theorem Engine.formatRaw_term (e : Engine) : (e.formatRaw).term = e.term := by simp only [Engine.formatRaw]
@[simp] theorem Engine.formatRaw_oph (e : Engine) : (e.formatRaw).oph = e.oph := by simp only [Engine.formatRaw]
@[simp] theorem Engine.formatRaw_text (e : Engine) : (e.formatRaw).text = e.text := by simp only [Engine.formatRaw]
@[simp] theorem Engine.formatRaw_name (e : Engine) : (e.formatRaw).name = e.name := by simp only [Engine.formatRaw]
@[simp] theorem Engine.formatRaw_w64 (e : Engine) : (e.formatRaw).w64 = e.w64 := by simp only [Engine.formatRaw]
@[simp] theorem Engine.formatRaw_msgLen (e : Engine) : (e.formatRaw).msgLen = e.msgLen := by simp only [Engine.formatRaw]
@[simp] theorem Engine.formatRaw_keyLen (e : Engine) : (e.formatRaw).keyLen = e.keyLen := by simp only [Engine.formatRaw]
@[simp] theorem Engine.formatRaw_mlen (e : Engine) : (e.formatRaw).mlen = e.mlen := by simp only [Engine.formatRaw]
@[simp] theorem Engine.formatRaw_klen (e : Engine) : (e.formatRaw).klen = e.klen := by simp only [Engine.formatRaw]
@[simp] theorem Engine.formatRaw_err (e : Engine) : (e.formatRaw).err = e.err := by simp only [Engine.formatRaw]
@[simp] theorem Engine.formatRaw_rlen (e : Engine) : (e.formatRaw).rlen = e.rlen := by simp only [Engine.formatRaw]
@[simp] theorem Engine.formatRaw_dlen (e : Engine) : (e.formatRaw).dlen = e.dlen := by simp only [Engine.formatRaw]
@[simp] theorem Engine.formatRaw_olen (e : Engine) : (e.formatRaw).olen = e.olen := by simp only [Engine.formatRaw]
@[simp] theorem Engine.formatRaw_obuf (e : Engine) : (e.formatRaw).obuf = e.obuf := by simp only [Engine.formatRaw]
@[simp] theorem Engine.formatRaw_width (e : Engine) : (e.formatRaw).width = e.width := by simp only [Engine.width, Engine.formatRaw_name]
@[simp] theorem Engine.formatRaw_blockSize (e : Engine) : (e.formatRaw).blockSize = e.blockSize := by simp only [Engine.blockSize, Engine.formatRaw_width]
@[simp] theorem Engine.formatRaw_lenField (e : Engine) : (e.formatRaw).lenField = e.lenField := by simp only [Engine.lenField, Engine.formatRaw_width]
@[simp] theorem Engine.formatRaw_rounds (e : Engine) : (e.formatRaw).rounds = e.rounds := by simp only [Engine.rounds, Engine.formatRaw_width]
@[simp] theorem Engine.formatRaw_digestLength (e : Engine) : (e.formatRaw).digestLength = e.digestLength := by simp only [Engine.digestLength, Engine.formatRaw_name]
@[simp] theorem Engine.formatRaw_digestWordCount (e : Engine) : (e.formatRaw).digestWordCount = e.digestWordCount := by simp only [Engine.digestWordCount, Engine.formatRaw_name]

/-! ## `Engine.routeOutput` (R226) -/

@[simp] theorem Engine.routeOutput_stage (e : Engine) : (e.routeOutput).stage = e.stage := by simp only [Engine.routeOutput]
@[simp] theorem Engine.routeOutput_phase (e : Engine) : (e.routeOutput).phase = e.phase := by simp only [Engine.routeOutput]
@[simp] theorem Engine.routeOutput_t (e : Engine) : (e.routeOutput).t = e.t := by simp only [Engine.routeOutput]
@[simp] theorem Engine.routeOutput_h (e : Engine) : (e.routeOutput).h = e.h := by simp only [Engine.routeOutput]
@[simp] theorem Engine.routeOutput_vars (e : Engine) : (e.routeOutput).vars = e.vars := by simp only [Engine.routeOutput]
@[simp] theorem Engine.routeOutput_w (e : Engine) : (e.routeOutput).w = e.w := by simp only [Engine.routeOutput]
@[simp] theorem Engine.routeOutput_blk (e : Engine) : (e.routeOutput).blk = e.blk := by simp only [Engine.routeOutput]
@[simp] theorem Engine.routeOutput_iblk (e : Engine) : (e.routeOutput).iblk = e.iblk := by simp only [Engine.routeOutput]
@[simp] theorem Engine.routeOutput_injv (e : Engine) : (e.routeOutput).injv = e.injv := by simp only [Engine.routeOutput]
@[simp] theorem Engine.routeOutput_keyblk (e : Engine) : (e.routeOutput).keyblk = e.keyblk := by simp only [Engine.routeOutput]
@[simp] theorem Engine.routeOutput_ikb (e : Engine) : (e.routeOutput).ikb = e.ikb := by simp only [Engine.routeOutput]
@[simp] theorem Engine.routeOutput_okb (e : Engine) : (e.routeOutput).okb = e.okb := by simp only [Engine.routeOutput]
@[simp] theorem Engine.routeOutput_dbuf (e : Engine) : (e.routeOutput).dbuf = e.dbuf := by simp only [Engine.routeOutput]
@[simp] theorem Engine.routeOutput_innerd (e : Engine) : (e.routeOutput).innerd = e.innerd := by simp only [Engine.routeOutput]
@[simp] theorem Engine.routeOutput_total (e : Engine) : (e.routeOutput).total = e.total := by simp only [Engine.routeOutput]
@[simp] theorem Engine.routeOutput_consumed (e : Engine) : (e.routeOutput).consumed = e.consumed := by simp only [Engine.routeOutput]
@[simp] theorem Engine.routeOutput_ra (e : Engine) : (e.routeOutput).ra = e.ra := by simp only [Engine.routeOutput]
@[simp] theorem Engine.routeOutput_rcvd (e : Engine) : (e.routeOutput).rcvd = e.rcvd := by simp only [Engine.routeOutput]
@[simp] theorem Engine.routeOutput_src (e : Engine) : (e.routeOutput).src = e.src := by simp only [Engine.routeOutput]
@[simp] theorem Engine.routeOutput_srcLen (e : Engine) : (e.routeOutput).srcLen = e.srcLen := by simp only [Engine.routeOutput]
@[simp] theorem Engine.routeOutput_ipos (e : Engine) : (e.routeOutput).ipos = e.ipos := by simp only [Engine.routeOutput]
@[simp] theorem Engine.routeOutput_term (e : Engine) : (e.routeOutput).term = e.term := by simp only [Engine.routeOutput]
@[simp] theorem Engine.routeOutput_oph (e : Engine) : (e.routeOutput).oph = e.oph := by simp only [Engine.routeOutput]
@[simp] theorem Engine.routeOutput_text (e : Engine) : (e.routeOutput).text = e.text := by simp only [Engine.routeOutput]
@[simp] theorem Engine.routeOutput_name (e : Engine) : (e.routeOutput).name = e.name := by simp only [Engine.routeOutput]
@[simp] theorem Engine.routeOutput_w64 (e : Engine) : (e.routeOutput).w64 = e.w64 := by simp only [Engine.routeOutput]
@[simp] theorem Engine.routeOutput_msgLen (e : Engine) : (e.routeOutput).msgLen = e.msgLen := by simp only [Engine.routeOutput]
@[simp] theorem Engine.routeOutput_keyLen (e : Engine) : (e.routeOutput).keyLen = e.keyLen := by simp only [Engine.routeOutput]
@[simp] theorem Engine.routeOutput_mlen (e : Engine) : (e.routeOutput).mlen = e.mlen := by simp only [Engine.routeOutput]
@[simp] theorem Engine.routeOutput_klen (e : Engine) : (e.routeOutput).klen = e.klen := by simp only [Engine.routeOutput]
@[simp] theorem Engine.routeOutput_err (e : Engine) : (e.routeOutput).err = e.err := by simp only [Engine.routeOutput]
@[simp] theorem Engine.routeOutput_rlen (e : Engine) : (e.routeOutput).rlen = BitVec.ofNat 4 e.digestWordCount := by simp only [Engine.routeOutput]
@[simp] theorem Engine.routeOutput_dlen (e : Engine) : (e.routeOutput).dlen = BitVec.ofNat 7 e.digestLength := by simp only [Engine.routeOutput]
@[simp] theorem Engine.routeOutput_olen (e : Engine) : (e.routeOutput).olen = BitVec.ofNat 8 (if e.text then 2 * e.digestLength + 1 else e.digestLength) := by simp only [Engine.routeOutput]
@[simp] theorem Engine.routeOutput_obuf (e : Engine) : (e.routeOutput).obuf = zeroFilled 256 e.outputBytes := by simp only [Engine.routeOutput]
@[simp] theorem Engine.routeOutput_width (e : Engine) : (e.routeOutput).width = e.width := by simp only [Engine.width, Engine.routeOutput_name]
@[simp] theorem Engine.routeOutput_blockSize (e : Engine) : (e.routeOutput).blockSize = e.blockSize := by simp only [Engine.blockSize, Engine.routeOutput_width]
@[simp] theorem Engine.routeOutput_lenField (e : Engine) : (e.routeOutput).lenField = e.lenField := by simp only [Engine.lenField, Engine.routeOutput_width]
@[simp] theorem Engine.routeOutput_rounds (e : Engine) : (e.routeOutput).rounds = e.rounds := by simp only [Engine.rounds, Engine.routeOutput_width]
@[simp] theorem Engine.routeOutput_digestLength (e : Engine) : (e.routeOutput).digestLength = e.digestLength := by simp only [Engine.digestLength, Engine.routeOutput_name]
@[simp] theorem Engine.routeOutput_digestWordCount (e : Engine) : (e.routeOutput).digestWordCount = e.digestWordCount := by simp only [Engine.digestWordCount, Engine.routeOutput_name]

/-! ## `Engine.route` (R226) -/

@[simp] theorem Engine.route_stage (e : Engine) : (e.route).stage = e.stage := by unfold Engine.route; split <;> simp_all
@[simp] theorem Engine.route_phase (e : Engine) : (e.route).phase = e.phase := by unfold Engine.route; split <;> simp_all
@[simp] theorem Engine.route_t (e : Engine) : (e.route).t = e.t := by unfold Engine.route; split <;> simp_all
@[simp] theorem Engine.route_h (e : Engine) : (e.route).h = e.h := by unfold Engine.route; split <;> simp_all
@[simp] theorem Engine.route_vars (e : Engine) : (e.route).vars = e.vars := by unfold Engine.route; split <;> simp_all
@[simp] theorem Engine.route_w (e : Engine) : (e.route).w = e.w := by unfold Engine.route; split <;> simp_all
@[simp] theorem Engine.route_blk (e : Engine) : (e.route).blk = e.blk := by unfold Engine.route; split <;> simp_all
@[simp] theorem Engine.route_iblk (e : Engine) : (e.route).iblk = e.iblk := by unfold Engine.route; split <;> simp_all
@[simp] theorem Engine.route_injv (e : Engine) : (e.route).injv = e.injv := by unfold Engine.route; split <;> simp_all
@[simp] theorem Engine.route_ikb (e : Engine) : (e.route).ikb = e.ikb := by unfold Engine.route; split <;> simp_all
@[simp] theorem Engine.route_okb (e : Engine) : (e.route).okb = e.okb := by unfold Engine.route; split <;> simp_all
@[simp] theorem Engine.route_dbuf (e : Engine) : (e.route).dbuf = e.dbuf := by unfold Engine.route; split <;> simp_all
@[simp] theorem Engine.route_total (e : Engine) : (e.route).total = e.total := by unfold Engine.route; split <;> simp_all
@[simp] theorem Engine.route_consumed (e : Engine) : (e.route).consumed = e.consumed := by unfold Engine.route; split <;> simp_all
@[simp] theorem Engine.route_ra (e : Engine) : (e.route).ra = e.ra := by unfold Engine.route; split <;> simp_all
@[simp] theorem Engine.route_rcvd (e : Engine) : (e.route).rcvd = e.rcvd := by unfold Engine.route; split <;> simp_all
@[simp] theorem Engine.route_src (e : Engine) : (e.route).src = e.src := by unfold Engine.route; split <;> simp_all
@[simp] theorem Engine.route_srcLen (e : Engine) : (e.route).srcLen = e.srcLen := by unfold Engine.route; split <;> simp_all
@[simp] theorem Engine.route_ipos (e : Engine) : (e.route).ipos = e.ipos := by unfold Engine.route; split <;> simp_all
@[simp] theorem Engine.route_term (e : Engine) : (e.route).term = e.term := by unfold Engine.route; split <;> simp_all
@[simp] theorem Engine.route_oph (e : Engine) : (e.route).oph = e.oph := by unfold Engine.route; split <;> simp_all
@[simp] theorem Engine.route_text (e : Engine) : (e.route).text = e.text := by unfold Engine.route; split <;> simp_all
@[simp] theorem Engine.route_name (e : Engine) : (e.route).name = e.name := by unfold Engine.route; split <;> simp_all
@[simp] theorem Engine.route_w64 (e : Engine) : (e.route).w64 = e.w64 := by unfold Engine.route; split <;> simp_all
@[simp] theorem Engine.route_msgLen (e : Engine) : (e.route).msgLen = e.msgLen := by unfold Engine.route; split <;> simp_all
@[simp] theorem Engine.route_keyLen (e : Engine) : (e.route).keyLen = e.keyLen := by unfold Engine.route; split <;> simp_all
@[simp] theorem Engine.route_mlen (e : Engine) : (e.route).mlen = e.mlen := by unfold Engine.route; split <;> simp_all
@[simp] theorem Engine.route_klen (e : Engine) : (e.route).klen = e.klen := by unfold Engine.route; split <;> simp_all
@[simp] theorem Engine.route_err (e : Engine) : (e.route).err = e.err := by unfold Engine.route; split <;> simp_all
@[simp] theorem Engine.route_width (e : Engine) : (e.route).width = e.width := by simp only [Engine.width, Engine.route_name]
@[simp] theorem Engine.route_blockSize (e : Engine) : (e.route).blockSize = e.blockSize := by simp only [Engine.blockSize, Engine.route_width]
@[simp] theorem Engine.route_lenField (e : Engine) : (e.route).lenField = e.lenField := by simp only [Engine.lenField, Engine.route_width]
@[simp] theorem Engine.route_rounds (e : Engine) : (e.route).rounds = e.rounds := by simp only [Engine.rounds, Engine.route_width]
@[simp] theorem Engine.route_digestLength (e : Engine) : (e.route).digestLength = e.digestLength := by simp only [Engine.digestLength, Engine.route_name]
@[simp] theorem Engine.route_digestWordCount (e : Engine) : (e.route).digestWordCount = e.digestWordCount := by simp only [Engine.digestWordCount, Engine.route_name]

/-! ## `Engine.keyCopy` (R237) -/

@[simp] theorem Engine.keyCopy_stage (e : Engine) : (e.keyCopy).stage = .buildpads := by simp [Engine.keyCopy]
@[simp] theorem Engine.keyCopy_phase (e : Engine) : (e.keyCopy).phase = .init := by simp [Engine.keyCopy]
@[simp] theorem Engine.keyCopy_t (e : Engine) : (e.keyCopy).t = e.t := by simp [Engine.keyCopy]
@[simp] theorem Engine.keyCopy_h (e : Engine) : (e.keyCopy).h = e.h := by simp [Engine.keyCopy]
@[simp] theorem Engine.keyCopy_vars (e : Engine) : (e.keyCopy).vars = e.vars := by simp [Engine.keyCopy]
@[simp] theorem Engine.keyCopy_w (e : Engine) : (e.keyCopy).w = e.w := by simp [Engine.keyCopy]
@[simp] theorem Engine.keyCopy_blk (e : Engine) : (e.keyCopy).blk = e.blk := by simp [Engine.keyCopy]
@[simp] theorem Engine.keyCopy_iblk (e : Engine) : (e.keyCopy).iblk = e.iblk := by simp [Engine.keyCopy]
@[simp] theorem Engine.keyCopy_injv (e : Engine) : (e.keyCopy).injv = e.injv := by simp [Engine.keyCopy]
@[simp] theorem Engine.keyCopy_keyblk (e : Engine) : (e.keyCopy).keyblk = zeroFilled 128 (e.srcBytes e.klen.toNat) := by simp [Engine.keyCopy]
@[simp] theorem Engine.keyCopy_ikb (e : Engine) : (e.keyCopy).ikb = e.ikb := by simp [Engine.keyCopy]
@[simp] theorem Engine.keyCopy_okb (e : Engine) : (e.keyCopy).okb = e.okb := by simp [Engine.keyCopy]
@[simp] theorem Engine.keyCopy_dbuf (e : Engine) : (e.keyCopy).dbuf = e.dbuf := by simp [Engine.keyCopy]
@[simp] theorem Engine.keyCopy_innerd (e : Engine) : (e.keyCopy).innerd = e.innerd := by simp [Engine.keyCopy]
@[simp] theorem Engine.keyCopy_total (e : Engine) : (e.keyCopy).total = e.total := by simp [Engine.keyCopy]
@[simp] theorem Engine.keyCopy_consumed (e : Engine) : (e.keyCopy).consumed = e.consumed := by simp [Engine.keyCopy]
@[simp] theorem Engine.keyCopy_ra (e : Engine) : (e.keyCopy).ra = (e.srcTaken e.klen.toNat).ra := by simp [Engine.keyCopy]
@[simp] theorem Engine.keyCopy_rcvd (e : Engine) : (e.keyCopy).rcvd = e.rcvd := by simp [Engine.keyCopy]
@[simp] theorem Engine.keyCopy_src (e : Engine) : (e.keyCopy).src = e.src := by simp [Engine.keyCopy]
@[simp] theorem Engine.keyCopy_srcLen (e : Engine) : (e.keyCopy).srcLen = e.srcLen := by simp [Engine.keyCopy]
@[simp] theorem Engine.keyCopy_ipos (e : Engine) : (e.keyCopy).ipos = (e.srcTaken e.klen.toNat).ipos := by simp [Engine.keyCopy]
@[simp] theorem Engine.keyCopy_term (e : Engine) : (e.keyCopy).term = e.term := by simp [Engine.keyCopy]
@[simp] theorem Engine.keyCopy_oph (e : Engine) : (e.keyCopy).oph = e.oph := by simp [Engine.keyCopy]
@[simp] theorem Engine.keyCopy_text (e : Engine) : (e.keyCopy).text = e.text := by simp [Engine.keyCopy]
@[simp] theorem Engine.keyCopy_name (e : Engine) : (e.keyCopy).name = e.name := by simp [Engine.keyCopy]
@[simp] theorem Engine.keyCopy_w64 (e : Engine) : (e.keyCopy).w64 = e.w64 := by simp [Engine.keyCopy]
@[simp] theorem Engine.keyCopy_msgLen (e : Engine) : (e.keyCopy).msgLen = e.msgLen := by simp [Engine.keyCopy]
@[simp] theorem Engine.keyCopy_keyLen (e : Engine) : (e.keyCopy).keyLen = e.keyLen := by simp [Engine.keyCopy]
@[simp] theorem Engine.keyCopy_mlen (e : Engine) : (e.keyCopy).mlen = e.mlen := by simp [Engine.keyCopy]
@[simp] theorem Engine.keyCopy_klen (e : Engine) : (e.keyCopy).klen = e.klen := by simp [Engine.keyCopy]
@[simp] theorem Engine.keyCopy_err (e : Engine) : (e.keyCopy).err = e.err := by simp [Engine.keyCopy]
@[simp] theorem Engine.keyCopy_rlen (e : Engine) : (e.keyCopy).rlen = e.rlen := by simp [Engine.keyCopy]
@[simp] theorem Engine.keyCopy_dlen (e : Engine) : (e.keyCopy).dlen = e.dlen := by simp [Engine.keyCopy]
@[simp] theorem Engine.keyCopy_olen (e : Engine) : (e.keyCopy).olen = e.olen := by simp [Engine.keyCopy]
@[simp] theorem Engine.keyCopy_obuf (e : Engine) : (e.keyCopy).obuf = e.obuf := by simp [Engine.keyCopy]
@[simp] theorem Engine.keyCopy_width (e : Engine) : (e.keyCopy).width = e.width := by simp only [Engine.width, Engine.keyCopy_name]
@[simp] theorem Engine.keyCopy_blockSize (e : Engine) : (e.keyCopy).blockSize = e.blockSize := by simp only [Engine.blockSize, Engine.keyCopy_width]
@[simp] theorem Engine.keyCopy_lenField (e : Engine) : (e.keyCopy).lenField = e.lenField := by simp only [Engine.lenField, Engine.keyCopy_width]
@[simp] theorem Engine.keyCopy_rounds (e : Engine) : (e.keyCopy).rounds = e.rounds := by simp only [Engine.rounds, Engine.keyCopy_width]
@[simp] theorem Engine.keyCopy_digestLength (e : Engine) : (e.keyCopy).digestLength = e.digestLength := by simp only [Engine.digestLength, Engine.keyCopy_name]
@[simp] theorem Engine.keyCopy_digestWordCount (e : Engine) : (e.keyCopy).digestWordCount = e.digestWordCount := by simp only [Engine.digestWordCount, Engine.keyCopy_name]

/-! ## `Engine.keyHash` (R238) -/

@[simp] theorem Engine.keyHash_stage (e : Engine) : (e.keyHash).stage = .buildpads := by simp only [Engine.keyHash]
@[simp] theorem Engine.keyHash_phase (e : Engine) : (e.keyHash).phase = .init := by simp only [Engine.keyHash]
@[simp] theorem Engine.keyHash_t (e : Engine) : (e.keyHash).t = e.t := by simp only [Engine.keyHash]
@[simp] theorem Engine.keyHash_h (e : Engine) : (e.keyHash).h = e.h := by simp only [Engine.keyHash]
@[simp] theorem Engine.keyHash_vars (e : Engine) : (e.keyHash).vars = e.vars := by simp only [Engine.keyHash]
@[simp] theorem Engine.keyHash_w (e : Engine) : (e.keyHash).w = e.w := by simp only [Engine.keyHash]
@[simp] theorem Engine.keyHash_blk (e : Engine) : (e.keyHash).blk = e.blk := by simp only [Engine.keyHash]
@[simp] theorem Engine.keyHash_iblk (e : Engine) : (e.keyHash).iblk = e.iblk := by simp only [Engine.keyHash]
@[simp] theorem Engine.keyHash_injv (e : Engine) : (e.keyHash).injv = e.injv := by simp only [Engine.keyHash]
@[simp] theorem Engine.keyHash_keyblk (e : Engine) : (e.keyHash).keyblk = zeroFilled 128 e.rawDigest := by simp only [Engine.keyHash]
@[simp] theorem Engine.keyHash_ikb (e : Engine) : (e.keyHash).ikb = e.ikb := by simp only [Engine.keyHash]
@[simp] theorem Engine.keyHash_okb (e : Engine) : (e.keyHash).okb = e.okb := by simp only [Engine.keyHash]
@[simp] theorem Engine.keyHash_dbuf (e : Engine) : (e.keyHash).dbuf = e.dbuf := by simp only [Engine.keyHash]
@[simp] theorem Engine.keyHash_innerd (e : Engine) : (e.keyHash).innerd = e.innerd := by simp only [Engine.keyHash]
@[simp] theorem Engine.keyHash_total (e : Engine) : (e.keyHash).total = e.total := by simp only [Engine.keyHash]
@[simp] theorem Engine.keyHash_consumed (e : Engine) : (e.keyHash).consumed = e.consumed := by simp only [Engine.keyHash]
@[simp] theorem Engine.keyHash_ra (e : Engine) : (e.keyHash).ra = e.ra := by simp only [Engine.keyHash]
@[simp] theorem Engine.keyHash_rcvd (e : Engine) : (e.keyHash).rcvd = e.rcvd := by simp only [Engine.keyHash]
@[simp] theorem Engine.keyHash_src (e : Engine) : (e.keyHash).src = e.src := by simp only [Engine.keyHash]
@[simp] theorem Engine.keyHash_srcLen (e : Engine) : (e.keyHash).srcLen = e.srcLen := by simp only [Engine.keyHash]
@[simp] theorem Engine.keyHash_ipos (e : Engine) : (e.keyHash).ipos = e.ipos := by simp only [Engine.keyHash]
@[simp] theorem Engine.keyHash_term (e : Engine) : (e.keyHash).term = e.term := by simp only [Engine.keyHash]
@[simp] theorem Engine.keyHash_oph (e : Engine) : (e.keyHash).oph = e.oph := by simp only [Engine.keyHash]
@[simp] theorem Engine.keyHash_text (e : Engine) : (e.keyHash).text = e.text := by simp only [Engine.keyHash]
@[simp] theorem Engine.keyHash_name (e : Engine) : (e.keyHash).name = e.name := by simp only [Engine.keyHash]
@[simp] theorem Engine.keyHash_w64 (e : Engine) : (e.keyHash).w64 = e.w64 := by simp only [Engine.keyHash]
@[simp] theorem Engine.keyHash_msgLen (e : Engine) : (e.keyHash).msgLen = e.msgLen := by simp only [Engine.keyHash]
@[simp] theorem Engine.keyHash_keyLen (e : Engine) : (e.keyHash).keyLen = e.keyLen := by simp only [Engine.keyHash]
@[simp] theorem Engine.keyHash_mlen (e : Engine) : (e.keyHash).mlen = e.mlen := by simp only [Engine.keyHash]
@[simp] theorem Engine.keyHash_klen (e : Engine) : (e.keyHash).klen = e.klen := by simp only [Engine.keyHash]
@[simp] theorem Engine.keyHash_err (e : Engine) : (e.keyHash).err = e.err := by simp only [Engine.keyHash]
@[simp] theorem Engine.keyHash_rlen (e : Engine) : (e.keyHash).rlen = e.rlen := by simp only [Engine.keyHash]
@[simp] theorem Engine.keyHash_dlen (e : Engine) : (e.keyHash).dlen = e.dlen := by simp only [Engine.keyHash]
@[simp] theorem Engine.keyHash_olen (e : Engine) : (e.keyHash).olen = e.olen := by simp only [Engine.keyHash]
@[simp] theorem Engine.keyHash_obuf (e : Engine) : (e.keyHash).obuf = e.obuf := by simp only [Engine.keyHash]
@[simp] theorem Engine.keyHash_width (e : Engine) : (e.keyHash).width = e.width := by simp only [Engine.width, Engine.keyHash_name]
@[simp] theorem Engine.keyHash_blockSize (e : Engine) : (e.keyHash).blockSize = e.blockSize := by simp only [Engine.blockSize, Engine.keyHash_width]
@[simp] theorem Engine.keyHash_lenField (e : Engine) : (e.keyHash).lenField = e.lenField := by simp only [Engine.lenField, Engine.keyHash_width]
@[simp] theorem Engine.keyHash_rounds (e : Engine) : (e.keyHash).rounds = e.rounds := by simp only [Engine.rounds, Engine.keyHash_width]
@[simp] theorem Engine.keyHash_digestLength (e : Engine) : (e.keyHash).digestLength = e.digestLength := by simp only [Engine.digestLength, Engine.keyHash_name]
@[simp] theorem Engine.keyHash_digestWordCount (e : Engine) : (e.keyHash).digestWordCount = e.digestWordCount := by simp only [Engine.digestWordCount, Engine.keyHash_name]

/-! ## `Engine.buildPads` (R239) -/

@[simp] theorem Engine.buildPads_stage (e : Engine) : (e.buildPads).stage = .inner := by simp [Engine.buildPads]
@[simp] theorem Engine.buildPads_phase (e : Engine) : (e.buildPads).phase = .init := by simp [Engine.buildPads]
@[simp] theorem Engine.buildPads_t (e : Engine) : (e.buildPads).t = e.t := by simp [Engine.buildPads]
@[simp] theorem Engine.buildPads_h (e : Engine) : (e.buildPads).h = e.h := by simp [Engine.buildPads]
@[simp] theorem Engine.buildPads_vars (e : Engine) : (e.buildPads).vars = e.vars := by simp [Engine.buildPads]
@[simp] theorem Engine.buildPads_w (e : Engine) : (e.buildPads).w = e.w := by simp [Engine.buildPads]
@[simp] theorem Engine.buildPads_blk (e : Engine) : (e.buildPads).blk = e.blk := by simp [Engine.buildPads]
@[simp] theorem Engine.buildPads_iblk (e : Engine) : (e.buildPads).iblk = overwrite e.iblk (slice (padBlock e.keyblk e.blockSize 0x36#8) 0 e.blockSize) := by simp [Engine.buildPads]
@[simp] theorem Engine.buildPads_injv (e : Engine) : (e.buildPads).injv = true := by simp [Engine.buildPads]
@[simp] theorem Engine.buildPads_keyblk (e : Engine) : (e.buildPads).keyblk = e.keyblk := by simp [Engine.buildPads]
@[simp] theorem Engine.buildPads_ikb (e : Engine) : (e.buildPads).ikb = padBlock e.keyblk e.blockSize 0x36#8 := by simp [Engine.buildPads]
@[simp] theorem Engine.buildPads_okb (e : Engine) : (e.buildPads).okb = padBlock e.keyblk e.blockSize 0x5c#8 := by simp [Engine.buildPads]
@[simp] theorem Engine.buildPads_dbuf (e : Engine) : (e.buildPads).dbuf = e.dbuf := by simp [Engine.buildPads]
@[simp] theorem Engine.buildPads_innerd (e : Engine) : (e.buildPads).innerd = e.innerd := by simp [Engine.buildPads]
@[simp] theorem Engine.buildPads_total (e : Engine) : (e.buildPads).total = e.total := by simp [Engine.buildPads]
@[simp] theorem Engine.buildPads_consumed (e : Engine) : (e.buildPads).consumed = e.consumed := by simp [Engine.buildPads]
@[simp] theorem Engine.buildPads_ra (e : Engine) : (e.buildPads).ra = [] := by simp [Engine.buildPads]
@[simp] theorem Engine.buildPads_rcvd (e : Engine) : (e.buildPads).rcvd = 0 := by simp [Engine.buildPads]
@[simp] theorem Engine.buildPads_src (e : Engine) : (e.buildPads).src = .msg := by simp [Engine.buildPads]
@[simp] theorem Engine.buildPads_srcLen (e : Engine) : (e.buildPads).srcLen = e.mlen := by simp [Engine.buildPads]
@[simp] theorem Engine.buildPads_ipos (e : Engine) : (e.buildPads).ipos = e.ipos := by simp [Engine.buildPads]
@[simp] theorem Engine.buildPads_term (e : Engine) : (e.buildPads).term = e.term := by simp [Engine.buildPads]
@[simp] theorem Engine.buildPads_oph (e : Engine) : (e.buildPads).oph = e.oph := by simp [Engine.buildPads]
@[simp] theorem Engine.buildPads_text (e : Engine) : (e.buildPads).text = e.text := by simp [Engine.buildPads]
@[simp] theorem Engine.buildPads_name (e : Engine) : (e.buildPads).name = e.name := by simp [Engine.buildPads]
@[simp] theorem Engine.buildPads_w64 (e : Engine) : (e.buildPads).w64 = e.w64 := by simp [Engine.buildPads]
@[simp] theorem Engine.buildPads_msgLen (e : Engine) : (e.buildPads).msgLen = e.msgLen := by simp [Engine.buildPads]
@[simp] theorem Engine.buildPads_keyLen (e : Engine) : (e.buildPads).keyLen = e.keyLen := by simp [Engine.buildPads]
@[simp] theorem Engine.buildPads_mlen (e : Engine) : (e.buildPads).mlen = e.mlen := by simp [Engine.buildPads]
@[simp] theorem Engine.buildPads_klen (e : Engine) : (e.buildPads).klen = e.klen := by simp [Engine.buildPads]
@[simp] theorem Engine.buildPads_err (e : Engine) : (e.buildPads).err = e.err := by simp [Engine.buildPads]
@[simp] theorem Engine.buildPads_rlen (e : Engine) : (e.buildPads).rlen = e.rlen := by simp [Engine.buildPads]
@[simp] theorem Engine.buildPads_dlen (e : Engine) : (e.buildPads).dlen = e.dlen := by simp [Engine.buildPads]
@[simp] theorem Engine.buildPads_olen (e : Engine) : (e.buildPads).olen = e.olen := by simp [Engine.buildPads]
@[simp] theorem Engine.buildPads_obuf (e : Engine) : (e.buildPads).obuf = e.obuf := by simp [Engine.buildPads]
@[simp] theorem Engine.buildPads_width (e : Engine) : (e.buildPads).width = e.width := by simp only [Engine.width, Engine.buildPads_name]
@[simp] theorem Engine.buildPads_blockSize (e : Engine) : (e.buildPads).blockSize = e.blockSize := by simp only [Engine.blockSize, Engine.buildPads_width]
@[simp] theorem Engine.buildPads_lenField (e : Engine) : (e.buildPads).lenField = e.lenField := by simp only [Engine.lenField, Engine.buildPads_width]
@[simp] theorem Engine.buildPads_rounds (e : Engine) : (e.buildPads).rounds = e.rounds := by simp only [Engine.rounds, Engine.buildPads_width]
@[simp] theorem Engine.buildPads_digestLength (e : Engine) : (e.buildPads).digestLength = e.digestLength := by simp only [Engine.digestLength, Engine.buildPads_name]
@[simp] theorem Engine.buildPads_digestWordCount (e : Engine) : (e.buildPads).digestWordCount = e.digestWordCount := by simp only [Engine.digestWordCount, Engine.buildPads_name]

/-! ## `Engine.startOuter` (R241) -/

@[simp] theorem Engine.startOuter_stage (e : Engine) : (e.startOuter).stage = .outer := by simp only [Engine.startOuter]
@[simp] theorem Engine.startOuter_phase (e : Engine) : (e.startOuter).phase = .init := by simp only [Engine.startOuter]
@[simp] theorem Engine.startOuter_t (e : Engine) : (e.startOuter).t = e.t := by simp only [Engine.startOuter]
@[simp] theorem Engine.startOuter_h (e : Engine) : (e.startOuter).h = e.h := by simp only [Engine.startOuter]
@[simp] theorem Engine.startOuter_vars (e : Engine) : (e.startOuter).vars = e.vars := by simp only [Engine.startOuter]
@[simp] theorem Engine.startOuter_w (e : Engine) : (e.startOuter).w = e.w := by simp only [Engine.startOuter]
@[simp] theorem Engine.startOuter_blk (e : Engine) : (e.startOuter).blk = e.blk := by simp only [Engine.startOuter]
@[simp] theorem Engine.startOuter_iblk (e : Engine) : (e.startOuter).iblk = overwrite e.iblk (slice e.okb 0 e.blockSize) := by simp only [Engine.startOuter]
@[simp] theorem Engine.startOuter_injv (e : Engine) : (e.startOuter).injv = true := by simp only [Engine.startOuter]
@[simp] theorem Engine.startOuter_keyblk (e : Engine) : (e.startOuter).keyblk = e.keyblk := by simp only [Engine.startOuter]
@[simp] theorem Engine.startOuter_ikb (e : Engine) : (e.startOuter).ikb = e.ikb := by simp only [Engine.startOuter]
@[simp] theorem Engine.startOuter_okb (e : Engine) : (e.startOuter).okb = e.okb := by simp only [Engine.startOuter]
@[simp] theorem Engine.startOuter_dbuf (e : Engine) : (e.startOuter).dbuf = e.dbuf := by simp only [Engine.startOuter]
@[simp] theorem Engine.startOuter_innerd (e : Engine) : (e.startOuter).innerd = e.dbuf := by simp only [Engine.startOuter]
@[simp] theorem Engine.startOuter_total (e : Engine) : (e.startOuter).total = e.total := by simp only [Engine.startOuter]
@[simp] theorem Engine.startOuter_consumed (e : Engine) : (e.startOuter).consumed = e.consumed := by simp only [Engine.startOuter]
@[simp] theorem Engine.startOuter_ra (e : Engine) : (e.startOuter).ra = e.ra := by simp only [Engine.startOuter]
@[simp] theorem Engine.startOuter_rcvd (e : Engine) : (e.startOuter).rcvd = e.rcvd := by simp only [Engine.startOuter]
@[simp] theorem Engine.startOuter_src (e : Engine) : (e.startOuter).src = .innerd := by simp only [Engine.startOuter]
@[simp] theorem Engine.startOuter_srcLen (e : Engine) : (e.startOuter).srcLen = BitVec.ofNat 64 e.digestLength := by simp only [Engine.startOuter]
@[simp] theorem Engine.startOuter_ipos (e : Engine) : (e.startOuter).ipos = 0 := by simp only [Engine.startOuter]
@[simp] theorem Engine.startOuter_term (e : Engine) : (e.startOuter).term = e.term := by simp only [Engine.startOuter]
@[simp] theorem Engine.startOuter_oph (e : Engine) : (e.startOuter).oph = e.oph := by simp only [Engine.startOuter]
@[simp] theorem Engine.startOuter_text (e : Engine) : (e.startOuter).text = e.text := by simp only [Engine.startOuter]
@[simp] theorem Engine.startOuter_name (e : Engine) : (e.startOuter).name = e.name := by simp only [Engine.startOuter]
@[simp] theorem Engine.startOuter_w64 (e : Engine) : (e.startOuter).w64 = e.w64 := by simp only [Engine.startOuter]
@[simp] theorem Engine.startOuter_msgLen (e : Engine) : (e.startOuter).msgLen = e.msgLen := by simp only [Engine.startOuter]
@[simp] theorem Engine.startOuter_keyLen (e : Engine) : (e.startOuter).keyLen = e.keyLen := by simp only [Engine.startOuter]
@[simp] theorem Engine.startOuter_mlen (e : Engine) : (e.startOuter).mlen = e.mlen := by simp only [Engine.startOuter]
@[simp] theorem Engine.startOuter_klen (e : Engine) : (e.startOuter).klen = e.klen := by simp only [Engine.startOuter]
@[simp] theorem Engine.startOuter_err (e : Engine) : (e.startOuter).err = e.err := by simp only [Engine.startOuter]
@[simp] theorem Engine.startOuter_rlen (e : Engine) : (e.startOuter).rlen = e.rlen := by simp only [Engine.startOuter]
@[simp] theorem Engine.startOuter_dlen (e : Engine) : (e.startOuter).dlen = e.dlen := by simp only [Engine.startOuter]
@[simp] theorem Engine.startOuter_olen (e : Engine) : (e.startOuter).olen = e.olen := by simp only [Engine.startOuter]
@[simp] theorem Engine.startOuter_obuf (e : Engine) : (e.startOuter).obuf = e.obuf := by simp only [Engine.startOuter]
@[simp] theorem Engine.startOuter_width (e : Engine) : (e.startOuter).width = e.width := by simp only [Engine.width, Engine.startOuter_name]
@[simp] theorem Engine.startOuter_blockSize (e : Engine) : (e.startOuter).blockSize = e.blockSize := by simp only [Engine.blockSize, Engine.startOuter_width]
@[simp] theorem Engine.startOuter_lenField (e : Engine) : (e.startOuter).lenField = e.lenField := by simp only [Engine.lenField, Engine.startOuter_width]
@[simp] theorem Engine.startOuter_rounds (e : Engine) : (e.startOuter).rounds = e.rounds := by simp only [Engine.rounds, Engine.startOuter_width]
@[simp] theorem Engine.startOuter_digestLength (e : Engine) : (e.startOuter).digestLength = e.digestLength := by simp only [Engine.digestLength, Engine.startOuter_name]
@[simp] theorem Engine.startOuter_digestWordCount (e : Engine) : (e.startOuter).digestWordCount = e.digestWordCount := by simp only [Engine.digestWordCount, Engine.startOuter_name]

/-! ## `Engine.finishHmac` (R242) -/

@[simp] theorem Engine.finishHmac_stage (e : Engine) : (e.finishHmac).stage = .done := by simp [Engine.finishHmac]
@[simp] theorem Engine.finishHmac_phase (e : Engine) : (e.finishHmac).phase = e.phase := by simp [Engine.finishHmac]
@[simp] theorem Engine.finishHmac_t (e : Engine) : (e.finishHmac).t = e.t := by simp [Engine.finishHmac]
@[simp] theorem Engine.finishHmac_h (e : Engine) : (e.finishHmac).h = e.h := by simp [Engine.finishHmac]
@[simp] theorem Engine.finishHmac_vars (e : Engine) : (e.finishHmac).vars = e.vars := by simp [Engine.finishHmac]
@[simp] theorem Engine.finishHmac_w (e : Engine) : (e.finishHmac).w = e.w := by simp [Engine.finishHmac]
@[simp] theorem Engine.finishHmac_blk (e : Engine) : (e.finishHmac).blk = e.blk := by simp [Engine.finishHmac]
@[simp] theorem Engine.finishHmac_iblk (e : Engine) : (e.finishHmac).iblk = e.iblk := by simp [Engine.finishHmac]
@[simp] theorem Engine.finishHmac_injv (e : Engine) : (e.finishHmac).injv = e.injv := by simp [Engine.finishHmac]
@[simp] theorem Engine.finishHmac_keyblk (e : Engine) : (e.finishHmac).keyblk = e.keyblk := by simp [Engine.finishHmac]
@[simp] theorem Engine.finishHmac_ikb (e : Engine) : (e.finishHmac).ikb = e.ikb := by simp [Engine.finishHmac]
@[simp] theorem Engine.finishHmac_okb (e : Engine) : (e.finishHmac).okb = e.okb := by simp [Engine.finishHmac]
@[simp] theorem Engine.finishHmac_dbuf (e : Engine) : (e.finishHmac).dbuf = e.dbuf := by simp [Engine.finishHmac]
@[simp] theorem Engine.finishHmac_innerd (e : Engine) : (e.finishHmac).innerd = e.innerd := by simp [Engine.finishHmac]
@[simp] theorem Engine.finishHmac_total (e : Engine) : (e.finishHmac).total = e.total := by simp [Engine.finishHmac]
@[simp] theorem Engine.finishHmac_consumed (e : Engine) : (e.finishHmac).consumed = e.consumed := by simp [Engine.finishHmac]
@[simp] theorem Engine.finishHmac_ra (e : Engine) : (e.finishHmac).ra = e.ra := by simp [Engine.finishHmac]
@[simp] theorem Engine.finishHmac_rcvd (e : Engine) : (e.finishHmac).rcvd = e.rcvd := by simp [Engine.finishHmac]
@[simp] theorem Engine.finishHmac_src (e : Engine) : (e.finishHmac).src = e.src := by simp [Engine.finishHmac]
@[simp] theorem Engine.finishHmac_srcLen (e : Engine) : (e.finishHmac).srcLen = e.srcLen := by simp [Engine.finishHmac]
@[simp] theorem Engine.finishHmac_ipos (e : Engine) : (e.finishHmac).ipos = e.ipos := by simp [Engine.finishHmac]
@[simp] theorem Engine.finishHmac_term (e : Engine) : (e.finishHmac).term = e.term := by simp [Engine.finishHmac]
@[simp] theorem Engine.finishHmac_oph (e : Engine) : (e.finishHmac).oph = e.oph := by simp [Engine.finishHmac]
@[simp] theorem Engine.finishHmac_text (e : Engine) : (e.finishHmac).text = e.text := by simp [Engine.finishHmac]
@[simp] theorem Engine.finishHmac_name (e : Engine) : (e.finishHmac).name = e.name := by simp [Engine.finishHmac]
@[simp] theorem Engine.finishHmac_w64 (e : Engine) : (e.finishHmac).w64 = e.w64 := by simp [Engine.finishHmac]
@[simp] theorem Engine.finishHmac_msgLen (e : Engine) : (e.finishHmac).msgLen = e.msgLen := by simp [Engine.finishHmac]
@[simp] theorem Engine.finishHmac_keyLen (e : Engine) : (e.finishHmac).keyLen = e.keyLen := by simp [Engine.finishHmac]
@[simp] theorem Engine.finishHmac_mlen (e : Engine) : (e.finishHmac).mlen = e.mlen := by simp [Engine.finishHmac]
@[simp] theorem Engine.finishHmac_klen (e : Engine) : (e.finishHmac).klen = e.klen := by simp [Engine.finishHmac]
@[simp] theorem Engine.finishHmac_err (e : Engine) : (e.finishHmac).err = e.err := by simp [Engine.finishHmac]
@[simp] theorem Engine.finishHmac_rlen (e : Engine) : (e.finishHmac).rlen = e.routeOutput.rlen := by simp only [Engine.finishHmac]
@[simp] theorem Engine.finishHmac_dlen (e : Engine) : (e.finishHmac).dlen = e.routeOutput.dlen := by simp only [Engine.finishHmac]
@[simp] theorem Engine.finishHmac_olen (e : Engine) : (e.finishHmac).olen = e.routeOutput.olen := by simp only [Engine.finishHmac]
@[simp] theorem Engine.finishHmac_obuf (e : Engine) : (e.finishHmac).obuf = e.routeOutput.obuf := by simp only [Engine.finishHmac]
@[simp] theorem Engine.finishHmac_width (e : Engine) : (e.finishHmac).width = e.width := by simp only [Engine.width, Engine.finishHmac_name]
@[simp] theorem Engine.finishHmac_blockSize (e : Engine) : (e.finishHmac).blockSize = e.blockSize := by simp only [Engine.blockSize, Engine.finishHmac_width]
@[simp] theorem Engine.finishHmac_lenField (e : Engine) : (e.finishHmac).lenField = e.lenField := by simp only [Engine.lenField, Engine.finishHmac_width]
@[simp] theorem Engine.finishHmac_rounds (e : Engine) : (e.finishHmac).rounds = e.rounds := by simp only [Engine.rounds, Engine.finishHmac_width]
@[simp] theorem Engine.finishHmac_digestLength (e : Engine) : (e.finishHmac).digestLength = e.digestLength := by simp only [Engine.digestLength, Engine.finishHmac_name]
@[simp] theorem Engine.finishHmac_digestWordCount (e : Engine) : (e.finishHmac).digestWordCount = e.digestWordCount := by simp only [Engine.digestWordCount, Engine.finishHmac_name]

/-! ## `Engine.deriveKey` (R236) -/

@[simp] theorem Engine.deriveKey_stage (e : Engine) : (e.deriveKey).stage = .derivekey := by simp [Engine.deriveKey]
@[simp] theorem Engine.deriveKey_phase (e : Engine) : (e.deriveKey).phase = if e.blockSize < e.klen.toNat then .init else .keycopy := by simp [Engine.deriveKey]
@[simp] theorem Engine.deriveKey_t (e : Engine) : (e.deriveKey).t = e.t := by simp [Engine.deriveKey]
@[simp] theorem Engine.deriveKey_h (e : Engine) : (e.deriveKey).h = e.h := by simp [Engine.deriveKey]
@[simp] theorem Engine.deriveKey_vars (e : Engine) : (e.deriveKey).vars = e.vars := by simp [Engine.deriveKey]
@[simp] theorem Engine.deriveKey_w (e : Engine) : (e.deriveKey).w = e.w := by simp [Engine.deriveKey]
@[simp] theorem Engine.deriveKey_blk (e : Engine) : (e.deriveKey).blk = e.blk := by simp [Engine.deriveKey]
@[simp] theorem Engine.deriveKey_iblk (e : Engine) : (e.deriveKey).iblk = e.iblk := by simp [Engine.deriveKey]
@[simp] theorem Engine.deriveKey_injv (e : Engine) : (e.deriveKey).injv = false := by simp [Engine.deriveKey]
@[simp] theorem Engine.deriveKey_keyblk (e : Engine) : (e.deriveKey).keyblk = e.keyblk := by simp [Engine.deriveKey]
@[simp] theorem Engine.deriveKey_ikb (e : Engine) : (e.deriveKey).ikb = e.ikb := by simp [Engine.deriveKey]
@[simp] theorem Engine.deriveKey_okb (e : Engine) : (e.deriveKey).okb = e.okb := by simp [Engine.deriveKey]
@[simp] theorem Engine.deriveKey_dbuf (e : Engine) : (e.deriveKey).dbuf = e.dbuf := by simp [Engine.deriveKey]
@[simp] theorem Engine.deriveKey_innerd (e : Engine) : (e.deriveKey).innerd = e.innerd := by simp [Engine.deriveKey]
@[simp] theorem Engine.deriveKey_total (e : Engine) : (e.deriveKey).total = e.total := by simp [Engine.deriveKey]
@[simp] theorem Engine.deriveKey_consumed (e : Engine) : (e.deriveKey).consumed = e.consumed := by simp [Engine.deriveKey]
@[simp] theorem Engine.deriveKey_ra (e : Engine) : (e.deriveKey).ra = [] := by simp [Engine.deriveKey]
@[simp] theorem Engine.deriveKey_rcvd (e : Engine) : (e.deriveKey).rcvd = 0 := by simp [Engine.deriveKey]
@[simp] theorem Engine.deriveKey_src (e : Engine) : (e.deriveKey).src = .key := by simp [Engine.deriveKey]
@[simp] theorem Engine.deriveKey_srcLen (e : Engine) : (e.deriveKey).srcLen = e.klen := by simp [Engine.deriveKey]
@[simp] theorem Engine.deriveKey_ipos (e : Engine) : (e.deriveKey).ipos = e.ipos := by simp [Engine.deriveKey]
@[simp] theorem Engine.deriveKey_term (e : Engine) : (e.deriveKey).term = e.term := by simp [Engine.deriveKey]
@[simp] theorem Engine.deriveKey_oph (e : Engine) : (e.deriveKey).oph = e.oph := by simp [Engine.deriveKey]
@[simp] theorem Engine.deriveKey_text (e : Engine) : (e.deriveKey).text = e.text := by simp [Engine.deriveKey]
@[simp] theorem Engine.deriveKey_name (e : Engine) : (e.deriveKey).name = e.name := by simp [Engine.deriveKey]
@[simp] theorem Engine.deriveKey_w64 (e : Engine) : (e.deriveKey).w64 = e.w64 := by simp [Engine.deriveKey]
@[simp] theorem Engine.deriveKey_msgLen (e : Engine) : (e.deriveKey).msgLen = e.msgLen := by simp [Engine.deriveKey]
@[simp] theorem Engine.deriveKey_keyLen (e : Engine) : (e.deriveKey).keyLen = e.keyLen := by simp [Engine.deriveKey]
@[simp] theorem Engine.deriveKey_mlen (e : Engine) : (e.deriveKey).mlen = e.mlen := by simp [Engine.deriveKey]
@[simp] theorem Engine.deriveKey_klen (e : Engine) : (e.deriveKey).klen = e.klen := by simp [Engine.deriveKey]
@[simp] theorem Engine.deriveKey_err (e : Engine) : (e.deriveKey).err = e.err := by simp [Engine.deriveKey]
@[simp] theorem Engine.deriveKey_rlen (e : Engine) : (e.deriveKey).rlen = e.rlen := by simp [Engine.deriveKey]
@[simp] theorem Engine.deriveKey_dlen (e : Engine) : (e.deriveKey).dlen = e.dlen := by simp [Engine.deriveKey]
@[simp] theorem Engine.deriveKey_olen (e : Engine) : (e.deriveKey).olen = e.olen := by simp [Engine.deriveKey]
@[simp] theorem Engine.deriveKey_obuf (e : Engine) : (e.deriveKey).obuf = e.obuf := by simp [Engine.deriveKey]
@[simp] theorem Engine.deriveKey_width (e : Engine) : (e.deriveKey).width = e.width := by simp only [Engine.width, Engine.deriveKey_name]
@[simp] theorem Engine.deriveKey_blockSize (e : Engine) : (e.deriveKey).blockSize = e.blockSize := by simp only [Engine.blockSize, Engine.deriveKey_width]
@[simp] theorem Engine.deriveKey_lenField (e : Engine) : (e.deriveKey).lenField = e.lenField := by simp only [Engine.lenField, Engine.deriveKey_width]
@[simp] theorem Engine.deriveKey_rounds (e : Engine) : (e.deriveKey).rounds = e.rounds := by simp only [Engine.rounds, Engine.deriveKey_width]
@[simp] theorem Engine.deriveKey_digestLength (e : Engine) : (e.deriveKey).digestLength = e.digestLength := by simp only [Engine.digestLength, Engine.deriveKey_name]
@[simp] theorem Engine.deriveKey_digestWordCount (e : Engine) : (e.deriveKey).digestWordCount = e.digestWordCount := by simp only [Engine.digestWordCount, Engine.deriveKey_name]

/-! ## `Engine.startDigest` (R257) -/

@[simp] theorem Engine.startDigest_stage (e : Engine) : (e.startDigest).stage = .plain := by simp [Engine.startDigest]
@[simp] theorem Engine.startDigest_phase (e : Engine) : (e.startDigest).phase = .init := by simp [Engine.startDigest]
@[simp] theorem Engine.startDigest_t (e : Engine) : (e.startDigest).t = e.t := by simp [Engine.startDigest]
@[simp] theorem Engine.startDigest_h (e : Engine) : (e.startDigest).h = e.h := by simp [Engine.startDigest]
@[simp] theorem Engine.startDigest_vars (e : Engine) : (e.startDigest).vars = e.vars := by simp [Engine.startDigest]
@[simp] theorem Engine.startDigest_w (e : Engine) : (e.startDigest).w = e.w := by simp [Engine.startDigest]
@[simp] theorem Engine.startDigest_blk (e : Engine) : (e.startDigest).blk = e.blk := by simp [Engine.startDigest]
@[simp] theorem Engine.startDigest_iblk (e : Engine) : (e.startDigest).iblk = e.iblk := by simp [Engine.startDigest]
@[simp] theorem Engine.startDigest_injv (e : Engine) : (e.startDigest).injv = false := by simp [Engine.startDigest]
@[simp] theorem Engine.startDigest_keyblk (e : Engine) : (e.startDigest).keyblk = e.keyblk := by simp [Engine.startDigest]
@[simp] theorem Engine.startDigest_ikb (e : Engine) : (e.startDigest).ikb = e.ikb := by simp [Engine.startDigest]
@[simp] theorem Engine.startDigest_okb (e : Engine) : (e.startDigest).okb = e.okb := by simp [Engine.startDigest]
@[simp] theorem Engine.startDigest_dbuf (e : Engine) : (e.startDigest).dbuf = e.dbuf := by simp [Engine.startDigest]
@[simp] theorem Engine.startDigest_innerd (e : Engine) : (e.startDigest).innerd = e.innerd := by simp [Engine.startDigest]
@[simp] theorem Engine.startDigest_total (e : Engine) : (e.startDigest).total = e.total := by simp [Engine.startDigest]
@[simp] theorem Engine.startDigest_consumed (e : Engine) : (e.startDigest).consumed = e.consumed := by simp [Engine.startDigest]
@[simp] theorem Engine.startDigest_ra (e : Engine) : (e.startDigest).ra = [] := by simp [Engine.startDigest]
@[simp] theorem Engine.startDigest_rcvd (e : Engine) : (e.startDigest).rcvd = 0 := by simp [Engine.startDigest]
@[simp] theorem Engine.startDigest_src (e : Engine) : (e.startDigest).src = .msg := by simp [Engine.startDigest]
@[simp] theorem Engine.startDigest_srcLen (e : Engine) : (e.startDigest).srcLen = e.mlen := by simp [Engine.startDigest]
@[simp] theorem Engine.startDigest_ipos (e : Engine) : (e.startDigest).ipos = e.ipos := by simp [Engine.startDigest]
@[simp] theorem Engine.startDigest_term (e : Engine) : (e.startDigest).term = e.term := by simp [Engine.startDigest]
@[simp] theorem Engine.startDigest_oph (e : Engine) : (e.startDigest).oph = e.oph := by simp [Engine.startDigest]
@[simp] theorem Engine.startDigest_text (e : Engine) : (e.startDigest).text = e.text := by simp [Engine.startDigest]
@[simp] theorem Engine.startDigest_name (e : Engine) : (e.startDigest).name = e.name := by simp [Engine.startDigest]
@[simp] theorem Engine.startDigest_w64 (e : Engine) : (e.startDigest).w64 = e.w64 := by simp [Engine.startDigest]
@[simp] theorem Engine.startDigest_msgLen (e : Engine) : (e.startDigest).msgLen = e.msgLen := by simp [Engine.startDigest]
@[simp] theorem Engine.startDigest_keyLen (e : Engine) : (e.startDigest).keyLen = e.keyLen := by simp [Engine.startDigest]
@[simp] theorem Engine.startDigest_mlen (e : Engine) : (e.startDigest).mlen = e.mlen := by simp [Engine.startDigest]
@[simp] theorem Engine.startDigest_klen (e : Engine) : (e.startDigest).klen = e.klen := by simp [Engine.startDigest]
@[simp] theorem Engine.startDigest_err (e : Engine) : (e.startDigest).err = e.err := by simp [Engine.startDigest]
@[simp] theorem Engine.startDigest_rlen (e : Engine) : (e.startDigest).rlen = e.rlen := by simp [Engine.startDigest]
@[simp] theorem Engine.startDigest_dlen (e : Engine) : (e.startDigest).dlen = e.dlen := by simp [Engine.startDigest]
@[simp] theorem Engine.startDigest_olen (e : Engine) : (e.startDigest).olen = e.olen := by simp [Engine.startDigest]
@[simp] theorem Engine.startDigest_obuf (e : Engine) : (e.startDigest).obuf = e.obuf := by simp [Engine.startDigest]
@[simp] theorem Engine.startDigest_width (e : Engine) : (e.startDigest).width = e.width := by simp only [Engine.width, Engine.startDigest_name]
@[simp] theorem Engine.startDigest_blockSize (e : Engine) : (e.startDigest).blockSize = e.blockSize := by simp only [Engine.blockSize, Engine.startDigest_width]
@[simp] theorem Engine.startDigest_lenField (e : Engine) : (e.startDigest).lenField = e.lenField := by simp only [Engine.lenField, Engine.startDigest_width]
@[simp] theorem Engine.startDigest_rounds (e : Engine) : (e.startDigest).rounds = e.rounds := by simp only [Engine.rounds, Engine.startDigest_width]
@[simp] theorem Engine.startDigest_digestLength (e : Engine) : (e.startDigest).digestLength = e.digestLength := by simp only [Engine.digestLength, Engine.startDigest_name]
@[simp] theorem Engine.startDigest_digestWordCount (e : Engine) : (e.startDigest).digestWordCount = e.digestWordCount := by simp only [Engine.digestWordCount, Engine.startDigest_name]

/-! ## `Engine.latch` (R256) -/

@[simp] theorem Engine.latch_stage (e : Engine) (oph text : Bool) (v : Variant) (w64 : Bool) : (e.latch oph text v w64).stage = e.stage := by simp only [Engine.latch]
@[simp] theorem Engine.latch_phase (e : Engine) (oph text : Bool) (v : Variant) (w64 : Bool) : (e.latch oph text v w64).phase = e.phase := by simp only [Engine.latch]
@[simp] theorem Engine.latch_t (e : Engine) (oph text : Bool) (v : Variant) (w64 : Bool) : (e.latch oph text v w64).t = e.t := by simp only [Engine.latch]
@[simp] theorem Engine.latch_h (e : Engine) (oph text : Bool) (v : Variant) (w64 : Bool) : (e.latch oph text v w64).h = e.h := by simp only [Engine.latch]
@[simp] theorem Engine.latch_vars (e : Engine) (oph text : Bool) (v : Variant) (w64 : Bool) : (e.latch oph text v w64).vars = e.vars := by simp only [Engine.latch]
@[simp] theorem Engine.latch_w (e : Engine) (oph text : Bool) (v : Variant) (w64 : Bool) : (e.latch oph text v w64).w = e.w := by simp only [Engine.latch]
@[simp] theorem Engine.latch_blk (e : Engine) (oph text : Bool) (v : Variant) (w64 : Bool) : (e.latch oph text v w64).blk = e.blk := by simp only [Engine.latch]
@[simp] theorem Engine.latch_iblk (e : Engine) (oph text : Bool) (v : Variant) (w64 : Bool) : (e.latch oph text v w64).iblk = e.iblk := by simp only [Engine.latch]
@[simp] theorem Engine.latch_injv (e : Engine) (oph text : Bool) (v : Variant) (w64 : Bool) : (e.latch oph text v w64).injv = e.injv := by simp only [Engine.latch]
@[simp] theorem Engine.latch_keyblk (e : Engine) (oph text : Bool) (v : Variant) (w64 : Bool) : (e.latch oph text v w64).keyblk = e.keyblk := by simp only [Engine.latch]
@[simp] theorem Engine.latch_ikb (e : Engine) (oph text : Bool) (v : Variant) (w64 : Bool) : (e.latch oph text v w64).ikb = e.ikb := by simp only [Engine.latch]
@[simp] theorem Engine.latch_okb (e : Engine) (oph text : Bool) (v : Variant) (w64 : Bool) : (e.latch oph text v w64).okb = e.okb := by simp only [Engine.latch]
@[simp] theorem Engine.latch_dbuf (e : Engine) (oph text : Bool) (v : Variant) (w64 : Bool) : (e.latch oph text v w64).dbuf = e.dbuf := by simp only [Engine.latch]
@[simp] theorem Engine.latch_innerd (e : Engine) (oph text : Bool) (v : Variant) (w64 : Bool) : (e.latch oph text v w64).innerd = e.innerd := by simp only [Engine.latch]
@[simp] theorem Engine.latch_total (e : Engine) (oph text : Bool) (v : Variant) (w64 : Bool) : (e.latch oph text v w64).total = e.total := by simp only [Engine.latch]
@[simp] theorem Engine.latch_consumed (e : Engine) (oph text : Bool) (v : Variant) (w64 : Bool) : (e.latch oph text v w64).consumed = e.consumed := by simp only [Engine.latch]
@[simp] theorem Engine.latch_ra (e : Engine) (oph text : Bool) (v : Variant) (w64 : Bool) : (e.latch oph text v w64).ra = e.ra := by simp only [Engine.latch]
@[simp] theorem Engine.latch_rcvd (e : Engine) (oph text : Bool) (v : Variant) (w64 : Bool) : (e.latch oph text v w64).rcvd = e.rcvd := by simp only [Engine.latch]
@[simp] theorem Engine.latch_src (e : Engine) (oph text : Bool) (v : Variant) (w64 : Bool) : (e.latch oph text v w64).src = e.src := by simp only [Engine.latch]
@[simp] theorem Engine.latch_srcLen (e : Engine) (oph text : Bool) (v : Variant) (w64 : Bool) : (e.latch oph text v w64).srcLen = e.srcLen := by simp only [Engine.latch]
@[simp] theorem Engine.latch_ipos (e : Engine) (oph text : Bool) (v : Variant) (w64 : Bool) : (e.latch oph text v w64).ipos = e.ipos := by simp only [Engine.latch]
@[simp] theorem Engine.latch_term (e : Engine) (oph text : Bool) (v : Variant) (w64 : Bool) : (e.latch oph text v w64).term = e.term := by simp only [Engine.latch]
@[simp] theorem Engine.latch_oph (e : Engine) (oph text : Bool) (v : Variant) (w64 : Bool) : (e.latch oph text v w64).oph = oph := by simp only [Engine.latch]
@[simp] theorem Engine.latch_text (e : Engine) (oph text : Bool) (v : Variant) (w64 : Bool) : (e.latch oph text v w64).text = text := by simp only [Engine.latch]
@[simp] theorem Engine.latch_name (e : Engine) (oph text : Bool) (v : Variant) (w64 : Bool) : (e.latch oph text v w64).name = v := by simp only [Engine.latch]
@[simp] theorem Engine.latch_w64 (e : Engine) (oph text : Bool) (v : Variant) (w64 : Bool) : (e.latch oph text v w64).w64 = w64 := by simp only [Engine.latch]
@[simp] theorem Engine.latch_msgLen (e : Engine) (oph text : Bool) (v : Variant) (w64 : Bool) : (e.latch oph text v w64).msgLen = e.msgLen := by simp only [Engine.latch]
@[simp] theorem Engine.latch_keyLen (e : Engine) (oph text : Bool) (v : Variant) (w64 : Bool) : (e.latch oph text v w64).keyLen = e.keyLen := by simp only [Engine.latch]
@[simp] theorem Engine.latch_mlen (e : Engine) (oph text : Bool) (v : Variant) (w64 : Bool) : (e.latch oph text v w64).mlen = e.msgLen := by simp only [Engine.latch]
@[simp] theorem Engine.latch_klen (e : Engine) (oph text : Bool) (v : Variant) (w64 : Bool) : (e.latch oph text v w64).klen = e.keyLen := by simp only [Engine.latch]
@[simp] theorem Engine.latch_err (e : Engine) (oph text : Bool) (v : Variant) (w64 : Bool) : (e.latch oph text v w64).err = e.err := by simp only [Engine.latch]
@[simp] theorem Engine.latch_rlen (e : Engine) (oph text : Bool) (v : Variant) (w64 : Bool) : (e.latch oph text v w64).rlen = e.rlen := by simp only [Engine.latch]
@[simp] theorem Engine.latch_dlen (e : Engine) (oph text : Bool) (v : Variant) (w64 : Bool) : (e.latch oph text v w64).dlen = e.dlen := by simp only [Engine.latch]
@[simp] theorem Engine.latch_olen (e : Engine) (oph text : Bool) (v : Variant) (w64 : Bool) : (e.latch oph text v w64).olen = e.olen := by simp only [Engine.latch]
@[simp] theorem Engine.latch_obuf (e : Engine) (oph text : Bool) (v : Variant) (w64 : Bool) : (e.latch oph text v w64).obuf = e.obuf := by simp only [Engine.latch]

/-! ## `Engine.acceptByte` (R73) -/

@[simp] theorem Engine.acceptByte_stage (e : Engine) (b : Byte) : (e.acceptByte b).stage = e.stage := by unfold Engine.acceptByte; split <;> rfl
@[simp] theorem Engine.acceptByte_phase (e : Engine) (b : Byte) : (e.acceptByte b).phase = e.phase := by unfold Engine.acceptByte; split <;> rfl
@[simp] theorem Engine.acceptByte_t (e : Engine) (b : Byte) : (e.acceptByte b).t = e.t := by unfold Engine.acceptByte; split <;> rfl
@[simp] theorem Engine.acceptByte_h (e : Engine) (b : Byte) : (e.acceptByte b).h = e.h := by unfold Engine.acceptByte; split <;> rfl
@[simp] theorem Engine.acceptByte_vars (e : Engine) (b : Byte) : (e.acceptByte b).vars = e.vars := by unfold Engine.acceptByte; split <;> rfl
@[simp] theorem Engine.acceptByte_w (e : Engine) (b : Byte) : (e.acceptByte b).w = e.w := by unfold Engine.acceptByte; split <;> rfl
@[simp] theorem Engine.acceptByte_blk (e : Engine) (b : Byte) : (e.acceptByte b).blk = e.blk := by unfold Engine.acceptByte; split <;> rfl
@[simp] theorem Engine.acceptByte_iblk (e : Engine) (b : Byte) : (e.acceptByte b).iblk = e.iblk := by unfold Engine.acceptByte; split <;> rfl
@[simp] theorem Engine.acceptByte_injv (e : Engine) (b : Byte) : (e.acceptByte b).injv = e.injv := by unfold Engine.acceptByte; split <;> rfl
@[simp] theorem Engine.acceptByte_keyblk (e : Engine) (b : Byte) : (e.acceptByte b).keyblk = e.keyblk := by unfold Engine.acceptByte; split <;> rfl
@[simp] theorem Engine.acceptByte_ikb (e : Engine) (b : Byte) : (e.acceptByte b).ikb = e.ikb := by unfold Engine.acceptByte; split <;> rfl
@[simp] theorem Engine.acceptByte_okb (e : Engine) (b : Byte) : (e.acceptByte b).okb = e.okb := by unfold Engine.acceptByte; split <;> rfl
@[simp] theorem Engine.acceptByte_dbuf (e : Engine) (b : Byte) : (e.acceptByte b).dbuf = e.dbuf := by unfold Engine.acceptByte; split <;> rfl
@[simp] theorem Engine.acceptByte_innerd (e : Engine) (b : Byte) : (e.acceptByte b).innerd = e.innerd := by unfold Engine.acceptByte; split <;> rfl
@[simp] theorem Engine.acceptByte_total (e : Engine) (b : Byte) : (e.acceptByte b).total = e.total := by unfold Engine.acceptByte; split <;> rfl
@[simp] theorem Engine.acceptByte_consumed (e : Engine) (b : Byte) : (e.acceptByte b).consumed = e.consumed := by unfold Engine.acceptByte; split <;> rfl
@[simp] theorem Engine.acceptByte_src (e : Engine) (b : Byte) : (e.acceptByte b).src = e.src := by unfold Engine.acceptByte; split <;> rfl
@[simp] theorem Engine.acceptByte_srcLen (e : Engine) (b : Byte) : (e.acceptByte b).srcLen = e.srcLen := by unfold Engine.acceptByte; split <;> rfl
@[simp] theorem Engine.acceptByte_ipos (e : Engine) (b : Byte) : (e.acceptByte b).ipos = e.ipos := by unfold Engine.acceptByte; split <;> rfl
@[simp] theorem Engine.acceptByte_term (e : Engine) (b : Byte) : (e.acceptByte b).term = e.term := by unfold Engine.acceptByte; split <;> rfl
@[simp] theorem Engine.acceptByte_oph (e : Engine) (b : Byte) : (e.acceptByte b).oph = e.oph := by unfold Engine.acceptByte; split <;> rfl
@[simp] theorem Engine.acceptByte_text (e : Engine) (b : Byte) : (e.acceptByte b).text = e.text := by unfold Engine.acceptByte; split <;> rfl
@[simp] theorem Engine.acceptByte_name (e : Engine) (b : Byte) : (e.acceptByte b).name = e.name := by unfold Engine.acceptByte; split <;> rfl
@[simp] theorem Engine.acceptByte_w64 (e : Engine) (b : Byte) : (e.acceptByte b).w64 = e.w64 := by unfold Engine.acceptByte; split <;> rfl
@[simp] theorem Engine.acceptByte_msgLen (e : Engine) (b : Byte) : (e.acceptByte b).msgLen = e.msgLen := by unfold Engine.acceptByte; split <;> rfl
@[simp] theorem Engine.acceptByte_keyLen (e : Engine) (b : Byte) : (e.acceptByte b).keyLen = e.keyLen := by unfold Engine.acceptByte; split <;> rfl
@[simp] theorem Engine.acceptByte_mlen (e : Engine) (b : Byte) : (e.acceptByte b).mlen = e.mlen := by unfold Engine.acceptByte; split <;> rfl
@[simp] theorem Engine.acceptByte_klen (e : Engine) (b : Byte) : (e.acceptByte b).klen = e.klen := by unfold Engine.acceptByte; split <;> rfl
@[simp] theorem Engine.acceptByte_err (e : Engine) (b : Byte) : (e.acceptByte b).err = e.err := by unfold Engine.acceptByte; split <;> rfl
@[simp] theorem Engine.acceptByte_rlen (e : Engine) (b : Byte) : (e.acceptByte b).rlen = e.rlen := by unfold Engine.acceptByte; split <;> rfl
@[simp] theorem Engine.acceptByte_dlen (e : Engine) (b : Byte) : (e.acceptByte b).dlen = e.dlen := by unfold Engine.acceptByte; split <;> rfl
@[simp] theorem Engine.acceptByte_olen (e : Engine) (b : Byte) : (e.acceptByte b).olen = e.olen := by unfold Engine.acceptByte; split <;> rfl
@[simp] theorem Engine.acceptByte_obuf (e : Engine) (b : Byte) : (e.acceptByte b).obuf = e.obuf := by unfold Engine.acceptByte; split <;> rfl
@[simp] theorem Engine.acceptByte_width (e : Engine) (b : Byte) : (e.acceptByte b).width = e.width := by simp only [Engine.width, Engine.acceptByte_name]
@[simp] theorem Engine.acceptByte_blockSize (e : Engine) (b : Byte) : (e.acceptByte b).blockSize = e.blockSize := by simp only [Engine.blockSize, Engine.acceptByte_width]
@[simp] theorem Engine.acceptByte_lenField (e : Engine) (b : Byte) : (e.acceptByte b).lenField = e.lenField := by simp only [Engine.lenField, Engine.acceptByte_width]
@[simp] theorem Engine.acceptByte_rounds (e : Engine) (b : Byte) : (e.acceptByte b).rounds = e.rounds := by simp only [Engine.rounds, Engine.acceptByte_width]
@[simp] theorem Engine.acceptByte_digestLength (e : Engine) (b : Byte) : (e.acceptByte b).digestLength = e.digestLength := by simp only [Engine.digestLength, Engine.acceptByte_name]
@[simp] theorem Engine.acceptByte_digestWordCount (e : Engine) (b : Byte) : (e.acceptByte b).digestWordCount = e.digestWordCount := by simp only [Engine.digestWordCount, Engine.acceptByte_name]

end Sys2Proof.Machine
end

