-- ==== Sys2Proof/Laws/Blocks.lean ====
section
/-! SUPPORT. What the five block operations write, by operation, when each is selected (R171), and when the host is asked for
bytes (R42). -/

namespace Sys2Proof.Machine

/-! ## Selection -/

theorem Engine.select_inject {e : Engine} : e.selectBlockOp = .inject ↔ e.injv = true := by
  unfold selectBlockOp lengthFits; split_ifs <;> simp_all

theorem Engine.select_full {e : Engine} :
    e.selectBlockOp = .full ↔ e.injv = false ∧ (e.blockSize : Int) ≤ e.remaining := by
  unfold selectBlockOp lengthFits; split_ifs <;> simp_all

theorem Engine.select_lenOnly {e : Engine} :
    e.selectBlockOp = .lenOnly ↔ e.injv = false ∧ e.remaining < e.blockSize ∧ e.remaining < 0 := by
  unfold selectBlockOp lengthFits; split_ifs <;> simp_all

theorem Engine.select_final {e : Engine} :
    e.selectBlockOp = .final ↔ e.injv = false ∧ e.remaining < e.blockSize ∧ 0 ≤ e.remaining ∧
      (e.lenField : Int) ≤ e.blockSize - (e.remaining + 1) := by
  unfold selectBlockOp lengthFits; split_ifs <;> simp_all

theorem Engine.select_padOnly {e : Engine} :
    e.selectBlockOp = .padOnly ↔ e.injv = false ∧ e.remaining < e.blockSize ∧ 0 ≤ e.remaining ∧
      (e.blockSize : Int) - (e.remaining + 1) < e.lenField := by
  unfold selectBlockOp lengthFits; split_ifs <;> simp_all

/-! ## Effects -/

theorem Engine.blockStep_consumed (e : Engine) (op : BlockOp) :
    (e.blockStep op).consumed = e.consumed + BitVec.ofNat 66 e.blockSize := by
  cases op <;> simp [blockStep, inject, fullBlock, finalBlock, padOnlyBlock, lenOnlyBlock]

theorem Engine.blockStep_term (e : Engine) (op : BlockOp) :
    (e.blockStep op).term = decide (op = .final ∨ op = .lenOnly) := by
  cases op <;> simp [blockStep, inject, fullBlock, finalBlock, padOnlyBlock, lenOnlyBlock]

theorem Engine.blockStep_injv (e : Engine) (op : BlockOp) :
    (e.blockStep op).injv = (e.injv && !decide (op = .inject)) := by
  cases op <;> simp [blockStep, inject, fullBlock, finalBlock, padOnlyBlock, lenOnlyBlock]

theorem Engine.blockStep_total (e : Engine) (op : BlockOp) :
    (e.blockStep op).total = if op = .inject then e.total + BitVec.ofNat 65 e.blockSize else e.total := by
  cases op <;> simp [blockStep, inject, fullBlock, finalBlock, padOnlyBlock, lenOnlyBlock]

/-- The source bytes a block operation takes. -/
def Engine.taken (e : Engine) : BlockOp → Nat
  | .full => e.blockSize
  | .final | .padOnly => e.tailBytes
  | .inject | .lenOnly => 0

theorem Engine.blockStep_ra (e : Engine) (op : BlockOp) : (e.blockStep op).ra = (e.srcTaken (e.taken op)).ra := by
  cases op <;> simp [blockStep, inject, fullBlock, finalBlock, padOnlyBlock, lenOnlyBlock, srcTaken_ra, taken]

theorem Engine.blockStep_ipos (e : Engine) (op : BlockOp) : (e.blockStep op).ipos = (e.srcTaken (e.taken op)).ipos := by
  cases op <;> simp [blockStep, inject, fullBlock, finalBlock, padOnlyBlock, lenOnlyBlock, srcTaken_ipos, taken]

theorem Engine.blockSize_bounds (e : Engine) : 64 ≤ e.blockSize ∧ e.blockSize ≤ 128 ∧ e.lenField < e.blockSize := by
  unfold blockSize lenField; cases e.width <;> decide

/-! ## The host's side -/

/-- When `REQ` is not 0 (R42). -/
theorem Engine.req_cases {e : Engine} (h : e.req ≠ 0) :
    (e.stage = .derivekey ∧ e.rcvd.toNat < e.klen.toNat) ∨
    ((e.stage = .inner ∨ e.stage = .plain) ∧ e.rcvd.toNat < e.mlen.toNat) := by
  unfold Engine.req at h
  split at h <;> simp_all

/-- `WANT` is positive when bytes are wanted, the window has room and the stream is not complete (R42). -/
theorem Engine.want_pos {e : Engine} :
    0 < e.want ↔ e.req ≠ 0 ∧ e.ra.length < Config.raBytes ∧ e.rcvd.toNat < e.srcLen.toNat := by
  unfold Engine.want
  split
  · simp_all
  · simp_all

/-- The stages of a digest run are busy, and are not the others. -/
theorem Engine.isRun_ne {e : Engine} (h : e.stage.isRun = true) :
    e.busy = true ∧ e.stage ≠ .idle ∧ e.stage ≠ .done ∧ e.stage ≠ .error ∧ e.stage ≠ .buildpads := by
  unfold Engine.busy
  cases hs : e.stage <;> simp_all [Stage.isRun]

end Sys2Proof.Machine
end

