-- ==== Sys2Proof/Laws/Compression.lean ====
section
/-! SUPPORT. What the compression function leaves: the words stay within the width (R21 to R23) and `T` is `NR` (R24). -/

namespace Sys2Proof.Machine

/-! ## Words of the width -/

theorem fits_atWidth2 (wd : Width) (f : BitVec 32 → BitVec 32 → BitVec 32) (g : BitVec 64 → BitVec 64 → BitVec 64)
    (x y : Word) : Fits wd (atWidth2 wd f g x y) := by
  rintro rfl
  have := (f (x.setWidth 32) (y.setWidth 32)).isLt
  simp only [atWidth2, BitVec.toNat_setWidth]
  omega

theorem fits_addw (wd : Width) (x y : Word) : Fits wd (addw wd x y) := fits_atWidth2 _ _ _ _ _

theorem fits_iv (v : Variant) (i : Fin 8) : Fits (variantWidth v) (iv v)[i] := by
  revert i
  cases v <;> (intro i h; revert i; first | decide | cases h)

theorem fits_messageWord (wd : Width) (blk : Vector Byte 128) (j : Nat) : Fits wd (messageWord wd blk j) := by
  rintro rfl
  have h1 := beNat_lt (slice blk (j * Width.w32.bytes) Width.w32.bytes)
  rw [slice_length] at h1
  have h2 : 256 ^ min Width.w32.bytes (128 - j * Width.w32.bytes) ≤ 256 ^ 4 :=
    Nat.pow_le_pow_right (by norm_num) (by simp [Width.bytes])
  have h3 : 256 ^ 4 = 2 ^ 32 := by norm_num
  simp only [messageWord, BitVec.toNat_ofNat]
  have := Nat.mod_le (beNat (slice blk (j * Width.w32.bytes) Width.w32.bytes)) (2 ^ 64)
  omega

theorem fits_roundVars (wd : Width) (v : Vars) (k wt : Word) (h : v.Fits wd) : (roundVars wd v k wt).Fits wd := by
  obtain ⟨h1, h2, h3, _, h5, h6, h7, _⟩ := h
  exact ⟨fits_addw _ _ _, h1, h2, h3, fits_addw _ _ _, h5, h6, h7⟩

theorem fits_expandSchedule (wd : Width) (is : List Nat) (w : Vector Word 80) (h : ∀ i : Fin 80, Fits wd w[i]) :
    ∀ j : Fin 80, Fits wd (expandSchedule wd w is)[j] := by
  induction is generalizing w with
  | nil => exact h
  | cons i is ih =>
    refine ih _ fun j => ?_
    simp only [scheduleEntry, Fin.getElem_fin, Vector.getElem_setIfInBounds]
    split
    · exact fits_addw _ _ _
    · exact h j

/-! ## The parts of `CE.BLOCK` -/

theorem Engine.rounds_le (e : Engine) : e.rounds ≤ 80 := by unfold Engine.rounds; cases e.width <;> decide

/-- After `n` rounds `T` is `n` further on. -/
theorem Engine.roundTimes_t (n : Nat) (e : Engine) (ht : e.t.toNat + n ≤ 80) :
    (Engine.roundTimes n e).t.toNat = e.t.toNat + n := by
  induction n generalizing e with
  | zero => rfl
  | succ n ih =>
    have h1 : e.round.t.toNat = e.t.toNat + 1 := by
      have : (1 : BitVec 7).toNat = 1 := rfl
      simp only [Engine.round_t, BitVec.toNat_add]
      omega
    rw [Engine.roundTimes, ih e.round (by omega)]
    omega

theorem Engine.roundTimes_fits (n : Nat) (e : Engine) (hf : e.vars.Fits e.width) :
    (Engine.roundTimes n e).vars.Fits e.width := by
  induction n generalizing e with
  | zero => exact hf
  | succ n ih =>
    rw [Engine.roundTimes, ← Engine.round_width e]
    apply ih
    rw [Engine.round_width, Engine.round_vars]
    exact fits_roundVars _ _ _ _ hf

theorem Engine.fold_fits (e : Engine) (i : Fin 8) : Fits e.width e.fold.h[i] := by
  have : ∀ j, ∀ hj : j < 8, Fits e.width (Engine.fold e).h[j] := by
    intro j hj
    simp only [Engine.fold]
    match j, hj with
    | 0, _ | 1, _ | 2, _ | 3, _ | 4, _ | 5, _ | 6, _ | 7, _ => exact fits_addw _ _ _
  exact this i i.2

theorem Engine.loadWords_fits (e : Engine) (hw : ∀ i : Fin 80, Fits e.width e.w[i]) :
    ∀ i : Fin 80, Fits e.width e.loadWords.w[i] := by
  intro i
  simp only [Engine.loadWords, Fin.getElem_fin, Vector.getElem_ofFn]
  split
  · exact fits_messageWord _ _ _
  · exact hw i

theorem Engine.initVars_fits (wd : Width) (e : Engine) (hh : ∀ i : Fin 8, Fits wd e.h[i]) : e.initVars.vars.Fits wd :=
  ⟨hh 0, hh 1, hh 2, hh 3, hh 4, hh 5, hh 6, hh 7⟩

/-! ## `CE.BLOCK` -/

theorem Engine.compress_t (e : Engine) : e.compress.t.toNat = e.rounds := by
  have := rounds_le e
  have h0 : (0 : BitVec 7).toNat = 0 := rfl
  unfold Engine.compress
  rw [Engine.fold_t, roundTimes_t]
  · simp
  · simp; omega

theorem Engine.compress_vars_fits (e : Engine) (hh : ∀ i : Fin 8, Fits e.width e.h[i]) :
    e.compress.vars.Fits e.width := by
  have h := initVars_fits e.width e.loadWords.schedule (by simpa using hh)
  have h := roundTimes_fits e.rounds e.loadWords.schedule.initVars (by simpa using h)
  unfold Engine.compress
  simpa using h

theorem Engine.compress_w_fits (e : Engine) (hw : ∀ i : Fin 80, Fits e.width e.w[i]) :
    ∀ i : Fin 80, Fits e.width e.compress.w[i] := by
  have h := fits_expandSchedule e.width (List.range' 16 (e.rounds - 16)) e.loadWords.w (loadWords_fits e hw)
  unfold Engine.compress
  simpa using h

theorem Engine.compress_h_fits (e : Engine) : ∀ i : Fin 8, Fits e.width e.compress.h[i] := by
  intro i
  have := fold_fits (Engine.roundTimes e.rounds e.loadWords.schedule.initVars) i
  unfold Engine.compress
  simpa only [Engine.roundTimes_width, Engine.initVars_width, Engine.schedule_width, Engine.loadWords_width] using this

end Sys2Proof.Machine
end

