-- ==== Sys2Proof/Laws/PerInstr.lean ====
section
/-! SUPPORT. The shape of every operation's encoding (30_encoding.md R90, R104, R105): one lemma per constructor of `Instr`. -/

namespace Sys2Proof

/-- A packet has the length its format gives it: a command word 4 bytes, a bus access 2 for a read and 6 for a write, an internal
operation its identifier and at most 24 bytes of operands. -/
def Packet.Shaped (p : Packet) : Prop :=
  match p.fmt with
  | .cmd => p.bytes.length = 4
  | .bus => p.bytes.length = 2 ∨ p.bytes.length = 6
  | .uop => 1 ≤ p.bytes.length ∧ p.bytes.length ≤ longestBytes .uop

theorem encodeCommand_shaped (v : BitVec 32) : (encodeCommand v).Shaped := leBytes_length 4 v.toNat

theorem encodeRead_shaped (off : Nat) : (encodeRead off).Shaped := .inl (leBytes_length 2 off)

theorem encodeWrite_shaped (off : Nat) (v : BitVec 32) : (encodeWrite off v).Shaped :=
  .inr (by simp [encodeWrite, leBytes_length])

theorem encodeUop_shaped (id : Byte) (operands : List Byte) (h : operands.length ≤ 24) : (encodeUop id operands).Shaped := by
  simp [Packet.Shaped, encodeUop, longestBytes]; omega

namespace Laws.EncodingShape

/-- An operation's encoding is shaped as its format says. -/
def Statement (i : Instr) : Prop := (encode i).Shaped

theorem digest (text : Bool) (name : BitVec 3) (w64 : Bool) : Statement (.digest text name w64) := encodeCommand_shaped _

theorem hmac (text : Bool) (name : BitVec 3) (w64 : Bool) : Statement (.hmac text name w64) := encodeCommand_shaped _

theorem wrCmd (v : BitVec 32) : Statement (.wrCmd v) := encodeWrite_shaped _ _

theorem rdStatus : Statement .rdStatus := encodeRead_shaped _

theorem rdErr : Statement .rdErr := encodeRead_shaped _

theorem rdWant : Statement .rdWant := encodeRead_shaped _

theorem rdMsglenLo : Statement .rdMsglenLo := encodeRead_shaped _

theorem wrMsglenLo (v : BitVec 32) : Statement (.wrMsglenLo v) := encodeWrite_shaped _ _

theorem rdMsglenHi : Statement .rdMsglenHi := encodeRead_shaped _

theorem wrMsglenHi (v : BitVec 32) : Statement (.wrMsglenHi v) := encodeWrite_shaped _ _

theorem rdKeylenLo : Statement .rdKeylenLo := encodeRead_shaped _

theorem wrKeylenLo (v : BitVec 32) : Statement (.wrKeylenLo v) := encodeWrite_shaped _ _

theorem rdKeylenHi : Statement .rdKeylenHi := encodeRead_shaped _

theorem wrKeylenHi (v : BitVec 32) : Statement (.wrKeylenHi v) := encodeWrite_shaped _ _

theorem wrDin (v : BitVec 32) : Statement (.wrDin v) := encodeWrite_shaped _ _

theorem wrDinctl (v : BitVec 32) : Statement (.wrDinctl v) := encodeWrite_shaped _ _

theorem rdRlen : Statement .rdRlen := encodeRead_shaped _

theorem rdDlen : Statement .rdDlen := encodeRead_shaped _

theorem rdOlen : Statement .rdOlen := encodeRead_shaped _

theorem rdObuf (i : BitVec 6) : Statement (.rdObuf i) := encodeRead_shaped _

theorem busNull (a : NullAccess) : Statement (.busNull a) :=
  match a with
  | .read _ => encodeRead_shaped _
  | .write _ _ => encodeWrite_shaped _ _

theorem rotr32 (x : BitVec 32) (n : BitVec 8) : Statement (.rotr32 x n) := encodeUop_shaped _ _ (by simp)

theorem rotr64 (x : BitVec 64) (n : BitVec 8) : Statement (.rotr64 x n) := encodeUop_shaped _ _ (by simp)

theorem shr32 (x : BitVec 32) (n : BitVec 8) : Statement (.shr32 x n) := encodeUop_shaped _ _ (by simp)

theorem shr64 (x : BitVec 64) (n : BitVec 8) : Statement (.shr64 x n) := encodeUop_shaped _ _ (by simp)

theorem add32 (x y : BitVec 32) : Statement (.add32 x y) := encodeUop_shaped _ _ (by simp)

theorem add64 (x y : BitVec 64) : Statement (.add64 x y) := encodeUop_shaped _ _ (by simp)

theorem bsig0x32 (x : BitVec 32) : Statement (.bsig0x32 x) := encodeUop_shaped _ _ (by simp)

theorem bsig0x64 (x : BitVec 64) : Statement (.bsig0x64 x) := encodeUop_shaped _ _ (by simp)

theorem bsig1x32 (x : BitVec 32) : Statement (.bsig1x32 x) := encodeUop_shaped _ _ (by simp)

theorem bsig1x64 (x : BitVec 64) : Statement (.bsig1x64 x) := encodeUop_shaped _ _ (by simp)

theorem ssig0x32 (x : BitVec 32) : Statement (.ssig0x32 x) := encodeUop_shaped _ _ (by simp)

theorem ssig0x64 (x : BitVec 64) : Statement (.ssig0x64 x) := encodeUop_shaped _ _ (by simp)

theorem ssig1x32 (x : BitVec 32) : Statement (.ssig1x32 x) := encodeUop_shaped _ _ (by simp)

theorem ssig1x64 (x : BitVec 64) : Statement (.ssig1x64 x) := encodeUop_shaped _ _ (by simp)

theorem ch32 (x y z : BitVec 32) : Statement (.ch32 x y z) := encodeUop_shaped _ _ (by simp)

theorem ch64 (x y z : BitVec 64) : Statement (.ch64 x y z) := encodeUop_shaped _ _ (by simp)

theorem maj32 (x y z : BitVec 32) : Statement (.maj32 x y z) := encodeUop_shaped _ _ (by simp)

theorem maj64 (x y z : BitVec 64) : Statement (.maj64 x y z) := encodeUop_shaped _ _ (by simp)

theorem bswap32 (x : BitVec 32) : Statement (.bswap32 x) := encodeUop_shaped _ _ (by simp)

theorem bswap64 (x : BitVec 64) : Statement (.bswap64 x) := encodeUop_shaped _ _ (by simp)

theorem vlookup (name : BitVec 3) (w64 : Bool) : Statement (.vlookup name w64) := encodeUop_shaped _ _ (by simp)

theorem kconst (t : BitVec 7) : Statement (.kconst t) := encodeUop_shaped _ _ (by simp)

theorem baNext : Statement .baNext := encodeUop_shaped _ _ (by decide)

theorem baInject : Statement .baInject := encodeUop_shaped _ _ (by decide)

theorem baFull : Statement .baFull := encodeUop_shaped _ _ (by decide)

theorem baFinal : Statement .baFinal := encodeUop_shaped _ _ (by decide)

theorem baPadonly : Statement .baPadonly := encodeUop_shaped _ _ (by decide)

theorem baLenonly : Statement .baLenonly := encodeUop_shaped _ _ (by decide)

theorem baNorm : Statement .baNorm := encodeUop_shaped _ _ (by decide)

theorem baRefill : Statement .baRefill := encodeUop_shaped _ _ (by decide)

theorem ceLoadw : Statement .ceLoadw := encodeUop_shaped _ _ (by decide)

theorem ceSched : Statement .ceSched := encodeUop_shaped _ _ (by decide)

theorem ceInitv : Statement .ceInitv := encodeUop_shaped _ _ (by decide)

theorem ceRound : Statement .ceRound := encodeUop_shaped _ _ (by decide)

theorem ceFold : Statement .ceFold := encodeUop_shaped _ _ (by decide)

theorem ceBlock : Statement .ceBlock := encodeUop_shaped _ _ (by decide)

theorem dfRaw : Statement .dfRaw := encodeUop_shaped _ _ (by decide)

theorem dfText : Statement .dfText := encodeUop_shaped _ _ (by decide)

theorem dfRoute : Statement .dfRoute := encodeUop_shaped _ _ (by decide)

theorem hmDerivekey : Statement .hmDerivekey := encodeUop_shaped _ _ (by decide)

theorem hmKeycopy : Statement .hmKeycopy := encodeUop_shaped _ _ (by decide)

theorem hmKeyhash : Statement .hmKeyhash := encodeUop_shaped _ _ (by decide)

theorem hmBuildpads : Statement .hmBuildpads := encodeUop_shaped _ _ (by decide)

theorem hmInner : Statement .hmInner := encodeUop_shaped _ _ (by decide)

theorem hmOuter : Statement .hmOuter := encodeUop_shaped _ _ (by decide)

theorem hmDone : Statement .hmDone := encodeUop_shaped _ _ (by decide)

theorem drInit : Statement .drInit := encodeUop_shaped _ _ (by decide)

theorem drLoop : Statement .drLoop := encodeUop_shaped _ _ (by decide)

theorem drEnd : Statement .drEnd := encodeUop_shaped _ _ (by decide)

theorem errEnter (kind : ErrorKind) : Statement (.errEnter kind) := encodeUop_shaped _ _ (by simp)

theorem reset : Statement .reset := encodeUop_shaped _ _ (by decide)

end Laws.EncodingShape

end Sys2Proof
end

