-- ==== Sys2Proof/Tests/Slice0.lean ====
section
/-! SUPPORT. Tests of the model, each on one step or one function: the expected values are those of 95_test_vectors.md or of the rule
the docstring names. Then, for every obligation with hypotheses, a concrete case that meets them. -/

-- One theorem after another: each waits for the kernel, and a thread for each would need more memory than the check allows.
set_option Elab.async false

namespace Sys2Proof.Tests

open Sys2Proof.Machine

/-! ## Helpers -/

/-- The bytes of numbers. -/
def bytes (l : List Nat) : List Byte := l.map (BitVec.ofNat 8)

/-- `61*n`. -/
def letters (n : Nat) : List Byte := List.replicate n 0x61#8

/-- An engine at a stage and phase of a variant, everything else as after reset. -/
def engineAt (st : Stage) (ph : Phase) (name : Variant) : Engine := { Engine.reset with stage := st, phase := ph, name := name }

/-- The machine around an engine. -/
def machine (e : Engine) : State := { State.reset with eng := e }

/-- What an operation leaves of an engine, read by a function; none if it stops. -/
def after {α : Type} (i : Instr) (e : Engine) (f : Engine → α) : Option α :=
  match exec i (machine e) with
  | .next t => some (f t.eng)
  | .fault _ | .refused _ => none

/-- The value an operation returns; none if it stops. -/
def returned (i : Instr) (e : Engine) : Option Output :=
  match exec i (machine e) with
  | .next t => some t.out
  | .fault _ | .refused _ => none

/-- A digest run of `n` message bytes, all of them in the window, about to assemble a block. -/
def assembling (name : Variant) (n consumed : Nat) : Engine :=
  { engineAt .plain .assemble name with
    src := .msg, srcLen := BitVec.ofNat 64 n, mlen := BitVec.ofNat 64 n, rcvd := BitVec.ofNat 64 n
    total := BitVec.ofNat 65 n, consumed := BitVec.ofNat 66 consumed, ra := letters n }

/-- A state vector of words. -/
def words (l : List Nat) : Vector Word 8 := Vector.ofFn fun i => BitVec.ofNat 64 (l.getD i.val 0)

/-- A block of bytes, zeros after them. -/
def block (l : List Nat) : Vector Byte 128 := zeroFilled 128 (bytes l)

/-- Some bytes of a block. -/
def bytesAt (b : Vector Byte 128) (is : List (Fin 128)) : List Byte := is.map fun i => b[i]

/-- The block of "abc" in a 32-bit variant. -/
def abcBlock : Vector Byte 128 := block ([0x61, 0x62, 0x63, 0x80] ++ List.replicate 59 0 ++ [0x18])

/-! ## Well-formedness -/

/-- `off[1:0]` must be 00 (R104); and a pair another row lists is no null access (R265). -/
theorem test_illformed_null_accesses :
    (Instr.busNull (.read 0x001#9)).wellFormed = false ∧ (Instr.busNull (.write 0x006#9 0#32)).wellFormed = false ∧
    (Instr.busNull (.read 0x004#9)).wellFormed = false ∧ (Instr.busNull (.read 0x1FC#9)).wellFormed = false ∧
    (Instr.busNull (.write 0x020#9 0#32)).wellFormed = false := by decide +kernel

/-- R104's null accesses of section 3: read of `CMD`, write of `STATUS`, read of 0x034, write of `OBUF[0]`. -/
theorem test_wellformed_null_accesses :
    (Instr.busNull (.read 0x000#9)).wellFormed = true ∧ (Instr.busNull (.write 0x004#9 1#32)).wellFormed = true ∧
    (Instr.busNull (.read 0x034#9)).wellFormed = true ∧ (Instr.busNull (.write 0x100#9 1#32)).wellFormed = true := by decide +kernel

/-! ## Decoding: words written out from R91, R104, R105 and R110 -/

/-- Command words of section 3. -/
theorem test_decode_commands :
    decodeTableWord 32 0x00000000 = some (.digest false 0#3 false) ∧ decodeTableWord 32 0x00000012 = some (.digest true 1#3 false) ∧
    decodeTableWord 32 0x000000A0 = some (.digest false 2#3 true) ∧ decodeTableWord 32 0x000000B3 = some (.hmac true 3#3 true) ∧
    decodeTableWord 32 0x000000D1 = some (.hmac false 5#3 true) ∧ decodeTableWord 32 0x00000004 = none ∧
    decodeTableWord 32 0x80000010 = none := by decide +kernel

/-- BUS patterns of section 3, the reads. -/
theorem test_decode_reads :
    decodeTableWord 16 0x004 = some .rdStatus ∧ decodeTableWord 16 0x008 = some .rdErr ∧ decodeTableWord 16 0x00C = some .rdWant ∧
    decodeTableWord 16 0x010 = some .rdMsglenLo ∧ decodeTableWord 16 0x014 = some .rdMsglenHi ∧
    decodeTableWord 16 0x018 = some .rdKeylenLo ∧ decodeTableWord 16 0x01C = some .rdKeylenHi ∧
    decodeTableWord 16 0x028 = some .rdRlen ∧ decodeTableWord 16 0x02C = some .rdDlen ∧ decodeTableWord 16 0x030 = some .rdOlen ∧
    decodeTableWord 16 0x100 = some (.rdObuf 0#6) ∧ decodeTableWord 16 0x104 = some (.rdObuf 1#6) ∧
    decodeTableWord 16 0x1FC = some (.rdObuf 63#6) ∧ decodeTableWord 16 0x000 = some (.busNull (.read 0#9)) ∧
    decodeTableWord 16 0x034 = some (.busNull (.read 0x034#9)) ∧ decodeTableWord 16 0x006 = none := by decide +kernel

/-- BUS patterns of section 3, the writes. -/
theorem test_decode_writes :
    decodeTableWord 16 0x200 = some (.wrCmd 0#32) ∧ decodeTableWord 16 0x210 = some (.wrMsglenLo 0#32) ∧
    decodeTableWord 16 0x214 = some (.wrMsglenHi 0#32) ∧ decodeTableWord 16 0x218 = some (.wrKeylenLo 0#32) ∧
    decodeTableWord 16 0x21C = some (.wrKeylenHi 0#32) ∧ decodeTableWord 16 0x220 = some (.wrDin 0#32) ∧
    decodeTableWord 16 0x224 = some (.wrDinctl 0#32) ∧ decodeTableWord 16 0x204 = some (.busNull (.write 0x004#9 0#32)) ∧
    decodeTableWord 16 0x300 = some (.busNull (.write 0x100#9 0#32)) ∧ decodeTableWord 16 0x400 = none := by decide +kernel

/-- Identifiers of R105, WordOps at width 32. -/
theorem test_decode_word_operations_32 :
    decodeTableWord 8 0x00 = some (.rotr32 0#32 0#8) ∧ decodeTableWord 8 0x01 = some (.shr32 0#32 0#8) ∧
    decodeTableWord 8 0x02 = some (.add32 0#32 0#32) ∧ decodeTableWord 8 0x03 = some (.bsig0x32 0#32) ∧
    decodeTableWord 8 0x04 = some (.bsig1x32 0#32) ∧ decodeTableWord 8 0x05 = some (.ssig0x32 0#32) ∧
    decodeTableWord 8 0x06 = some (.ssig1x32 0#32) ∧ decodeTableWord 8 0x07 = some (.ch32 0#32 0#32 0#32) ∧
    decodeTableWord 8 0x08 = some (.maj32 0#32 0#32 0#32) ∧ decodeTableWord 8 0x09 = some (.bswap32 0#32) := by decide +kernel

/-- Identifiers of R105, WordOps at width 64. -/
theorem test_decode_word_operations_64 :
    decodeTableWord 8 0x80 = some (.rotr64 0#64 0#8) ∧ decodeTableWord 8 0x81 = some (.shr64 0#64 0#8) ∧
    decodeTableWord 8 0x82 = some (.add64 0#64 0#64) ∧ decodeTableWord 8 0x83 = some (.bsig0x64 0#64) ∧
    decodeTableWord 8 0x84 = some (.bsig1x64 0#64) ∧ decodeTableWord 8 0x85 = some (.ssig0x64 0#64) ∧
    decodeTableWord 8 0x86 = some (.ssig1x64 0#64) ∧ decodeTableWord 8 0x87 = some (.ch64 0#64 0#64 0#64) ∧
    decodeTableWord 8 0x88 = some (.maj64 0#64 0#64 0#64) ∧ decodeTableWord 8 0x89 = some (.bswap64 0#64) := by decide +kernel

/-- Identifiers of R105, the units without word operands. -/
theorem test_decode_units :
    decodeTableWord 8 0x10 = some (.vlookup 0#3 false) ∧ decodeTableWord 8 0x11 = some (.kconst 0#7) ∧
    decodeTableWord 8 0x20 = some .baNext ∧ decodeTableWord 8 0x21 = some .baInject ∧ decodeTableWord 8 0x22 = some .baFull ∧
    decodeTableWord 8 0x23 = some .baFinal ∧ decodeTableWord 8 0x24 = some .baPadonly ∧ decodeTableWord 8 0x25 = some .baLenonly ∧
    decodeTableWord 8 0x26 = some .baNorm ∧ decodeTableWord 8 0x27 = some .baRefill ∧
    decodeTableWord 8 0x30 = some .ceLoadw ∧ decodeTableWord 8 0x31 = some .ceSched ∧ decodeTableWord 8 0x32 = some .ceInitv ∧
    decodeTableWord 8 0x33 = some .ceRound ∧ decodeTableWord 8 0x34 = some .ceFold ∧ decodeTableWord 8 0x35 = some .ceBlock ∧
    decodeTableWord 8 0x40 = some .dfRaw ∧ decodeTableWord 8 0x41 = some .dfText ∧ decodeTableWord 8 0x42 = some .dfRoute := by decide +kernel

/-- Identifiers of R105, HmacComposer, sequencer, errors and reset; 0x2F names no operation. -/
theorem test_decode_composer_and_sequencer :
    decodeTableWord 8 0x50 = some .hmDerivekey ∧ decodeTableWord 8 0x51 = some .hmKeycopy ∧ decodeTableWord 8 0x52 = some .hmKeyhash ∧
    decodeTableWord 8 0x53 = some .hmBuildpads ∧ decodeTableWord 8 0x54 = some .hmInner ∧ decodeTableWord 8 0x55 = some .hmOuter ∧
    decodeTableWord 8 0x56 = some .hmDone ∧ decodeTableWord 8 0x60 = some .drInit ∧ decodeTableWord 8 0x61 = some .drLoop ∧
    decodeTableWord 8 0x62 = some .drEnd ∧ decodeTableWord 8 0x70 = some (.errEnter .unknownVariant) ∧
    decodeTableWord 8 0x71 = some .reset ∧ decodeTableWord 8 0x2F = none := by decide +kernel

/-- Operands in place (log 3): the first operand stands first, each least significant byte first. -/
theorem test_decode_operands :
    decode .uop (bytes [0x00, 0x78, 0x56, 0x34, 0x12, 0x08]) = .ok (.rotr32 0x12345678#32 8#8, []) ∧
    decode .uop (bytes [0x07, 1, 0, 0, 0, 2, 0, 0, 0, 3, 0, 0, 0x80]) = .ok (.ch32 1#32 2#32 0x80000003#32, []) ∧
    decode .uop (bytes [0x82, 1, 0, 0, 0, 0, 0, 0, 0, 0, 0, 0, 0, 0, 0, 0, 0x80]) = .ok (.add64 1#64 0x8000000000000000#64, []) ∧
    decode .uop (bytes [0x10, 0xD0]) = .ok (.vlookup 5#3 true, []) ∧ decode .uop (bytes [0x11, 79]) = .ok (.kconst 79#7, []) ∧
    decode .uop (bytes [0x70, 4]) = .ok (.errEnter .badCommand, []) ∧
    decode .bus (bytes [0x20, 0x02, 0x61, 0, 0, 0x80]) = .ok (.wrDin 0x80000061#32, []) := by decide +kernel

/-! ## WordOps (section 4) -/

theorem test_rotr32 : returned (.rotr32 0x80000001#32 31#8) Engine.reset = some (.word32 0x00000003#32) := by decide +kernel
theorem test_rotr64 :
    returned (.rotr64 0x0123456789abcdef#64 61#8) Engine.reset = some (.word64 0x091a2b3c4d5e6f78#64) := by decide +kernel
theorem test_shr32 : returned (.shr32 0x12345678#32 10#8) Engine.reset = some (.word32 0x00048d15#32) := by decide +kernel
theorem test_shr64 : returned (.shr64 0xffffffffffffffff#64 63#8) Engine.reset = some (.word64 1#64) := by decide +kernel
theorem test_add32 : returned (.add32 0xffffffff#32 0xffffffff#32) Engine.reset = some (.word32 0xfffffffe#32) := by decide +kernel
theorem test_add64 : returned (.add64 0x00000000ffffffff#64 1#64) Engine.reset = some (.word64 0x0000000100000000#64) := by decide +kernel
theorem test_bsig0x32 : returned (.bsig0x32 0x12345678#32) Engine.reset = some (.word32 0x66146474#32) := by decide +kernel
theorem test_bsig0x64 :
    returned (.bsig0x64 0x0123456789abcdef#64) Engine.reset = some (.word64 0xb7c57a100c7ec1ab#64) := by decide +kernel
theorem test_bsig1x32 : returned (.bsig1x32 0x12345678#32) Engine.reset = some (.word32 0x3561abda#32) := by decide +kernel
theorem test_bsig1x64 :
    returned (.bsig1x64 0x0123456789abcdef#64) Engine.reset = some (.word64 0x7703112333475567#64) := by decide +kernel
theorem test_ssig0x32 : returned (.ssig0x32 0xdeadbeef#32) Engine.reset = some (.word32 0xabd31b0b#32) := by decide +kernel
theorem test_ssig0x64 :
    returned (.ssig0x64 0xdeadbeefcafef00d#64) Engine.reset = some (.word64 0xe33529b4d5207b16#64) := by decide +kernel
theorem test_ssig1x32 : returned (.ssig1x32 0xdeadbeef#32) Engine.reset = some (.word32 0x689dbfec#32) := by decide +kernel
theorem test_ssig1x64 :
    returned (.ssig1x64 0xdeadbeefcafef00d#64) Engine.reset = some (.word64 0x2816fa505f0182f1#64) := by decide +kernel
theorem test_ch32 :
    returned (.ch32 0x510e527f#32 0x9b05688c#32 0x1f83d9ab#32) Engine.reset = some (.word32 0x1f85c98c#32) := by decide +kernel
theorem test_ch64 :
    returned (.ch64 0x510e527fade682d1#64 0x9b05688c2b3e6c1f#64 0x1f83d9abfb41bd6b#64) Engine.reset =
      some (.word64 0x1f85c98c7b273d3b#64) := by decide +kernel
theorem test_maj32 :
    returned (.maj32 0x510e527f#32 0x9b05688c#32 0x1f83d9ab#32) Engine.reset = some (.word32 0x1b0758af#32) := by decide +kernel
theorem test_maj64 :
    returned (.maj64 0x510e527fade682d1#64 0x9b05688c2b3e6c1f#64 0x1f83d9abfb41bd6b#64) Engine.reset =
      some (.word64 0x1b0758afab66ac5b#64) := by decide +kernel
theorem test_bswap32 : returned (.bswap32 0xdeadbeef#32) Engine.reset = some (.word32 0xefbeadde#32) := by decide +kernel
theorem test_bswap64 :
    returned (.bswap64 0xdeadbeefcafef00d#64) Engine.reset = some (.word64 0x0df0fecaefbeadde#64) := by decide +kernel

/-! ## VariantTable (section 5) -/

theorem test_vlookup_384 :
    returned (.vlookup 2#3 true) Engine.reset = some (.params
      { variant := .v384, width := .w64, blockBytes := 128, stateWords := 8, rounds := 80, lenField := 16
        iv := words [0xcbbb9d5dc1059ed8, 0x629a292a367cd507, 0x9159015a3070dd17, 0x152fecd8f70e5939,
          0x67332667ffc00b31, 0x8eb44a8768581511, 0xdb0c2e0d64f98fa7, 0x47b5481dbefa4fa4]
        digestWords := 6, digestBytes := 48, textChars := 96 }) := by decide +kernel
theorem test_vlookup_unknown :
    after (.vlookup 2#3 false) Engine.reset (fun e => (e.stage, e.err)) = some (.error, some .unknownVariant) := by decide +kernel
theorem test_kconst_32 : returned (.kconst 63#7) (engineAt .idle .init .v256) = some (.word32 0xc67178f2#32) := by decide +kernel
theorem test_kconst_64 : returned (.kconst 79#7) (engineAt .idle .init .v512) = some (.word64 0x6c44198c4a475817#64) := by decide +kernel

/-- Section 5: the exclusive-or and the sum of all `K64[t]`, which a wrong digit in any entry changes. -/
theorem test_constants :
    ((List.range 80).map (roundConstant .w64)).foldl (· ^^^ ·) 0 = 0xd4b82f4e9d920e3b#64 ∧
    ((List.range 80).map (roundConstant .w64)).foldl (· + ·) 0 = 0x9bde35dffda2dffd#64 := by decide +kernel

/-! ## BlockAssembler (section 6) -/

/-- The selection at the edges of both widths: 55 and 56 for W = 32, 111, 112 and 119 for W = 64. -/
theorem test_baNext_selects :
    [(assembling .v256 0 0).selectBlockOp, (assembling .v256 55 0).selectBlockOp, (assembling .v256 56 0).selectBlockOp,
      (assembling .v256 63 0).selectBlockOp, (assembling .v256 56 64).selectBlockOp, (assembling .v256 64 0).selectBlockOp,
      (assembling .v256 64 64).selectBlockOp, (assembling .v512 111 0).selectBlockOp, (assembling .v512 112 0).selectBlockOp,
      (assembling .v512 119 0).selectBlockOp, (assembling .v512 128 0).selectBlockOp] =
    [.final, .final, .padOnly, .padOnly, .lenOnly, .full, .final, .final, .padOnly, .padOnly, .full] := by decide +kernel
theorem test_baNext : after .baNext (assembling .v256 3 0) (fun e => (e.phase, e.consumed, e.ra, e.term, bytesAt e.blk [2, 3, 4, 63])) =
    some (.compress, 64#66, [], true, bytes [0x61, 0x80, 0, 0x18]) := by decide +kernel
theorem test_baInject :
    after .baInject { assembling .v256 43 0 with injv := true, iblk := block [1, 2] }
      (fun e => (bytesAt e.blk [0, 1, 63], e.total, e.consumed, e.injv, e.ra.length)) =
      some (bytes [1, 2, 0], 107#65, 64#66, false, 43) := by decide +kernel
theorem test_baFull :
    after .baFull (assembling .v256 65 0) (fun e => (bytesAt e.blk [0, 63, 64], e.ra, e.consumed, e.term)) =
      some (bytes [0x61, 0x61, 0], [0x61#8], 64#66, false) := by decide +kernel
theorem test_baFinal :
    after .baFinal (assembling .v512 111 0) (fun e => (bytesAt e.blk [110, 111, 112, 125, 126, 127], e.consumed, e.term)) =
      some (bytes [0x61, 0x80, 0, 0, 0x03, 0x78], 128#66, true) := by decide +kernel
theorem test_baPadonly :
    after .baPadonly (assembling .v256 56 0) (fun e => (bytesAt e.blk [55, 56, 57, 63], e.consumed, e.term)) =
      some (bytes [0x61, 0x80, 0, 0], 64#66, false) := by decide +kernel
theorem test_baLenonly :
    after .baLenonly { assembling .v512 119 128 with ra := [] } (fun e => (bytesAt e.blk [0, 119, 125, 126, 127], e.consumed, e.term)) =
      some (bytes [0, 0, 0, 0x03, 0xb8], 256#66, true) := by decide +kernel

/-- `TOTAL` of `2^61 + 3` and of `2^64 - 1 + 128`: the field is taken modulo 2^64. -/
theorem test_length_field :
    ({ Engine.reset with total := 0x2000000000000003#65 }).lengthField = bytes [0, 0, 0, 0, 0, 0, 0, 0x18] ∧
    ({ Engine.reset with total := 0x1000000000000007f#65 }).lengthField = bytes [0, 0, 0, 0, 0, 0, 0x03, 0xf8] := by decide +kernel
theorem test_baNorm :
    (returned .baNorm { engineAt .plain .compress .v256 with blk := abcBlock }).map (fun o => match o with
      | .words m => (m.length, m[0]?, m[1]?, m[15]?)
      | _ => (0, none, none, none)) = some (16, some 0x61626380#64, some 0#64, some 0x18#64) := by decide +kernel
theorem test_baRefill : after .baRefill (assembling .v256 3 0) id = some (assembling .v256 3 0) := rfl

/-! ## CompressionEngine (section 7) -/

/-- The schedule `CE.LOADW` makes of the block of "abc". -/
def abcLoaded : Engine := ({ engineAt .plain .compress .v256 with blk := abcBlock, h := iv .v256 }).loadWords

theorem test_ceLoadw :
    after .ceLoadw { engineAt .plain .compress .v512 with blk := abcBlock, w := Vector.replicate 80 9 }
      (fun e => (e.w[0], e.w[7], e.w[8], e.w[16])) = some (0x6162638000000000#64, 0x18#64, 0#64, 9#64) := by decide +kernel
theorem test_ceSched :
    after .ceSched abcLoaded (fun e => (e.w[16], e.w[17], e.w[18], e.w[19], e.w[63], e.w[64])) =
      some (0x61626380#64, 0x000f0000#64, 0x7da86405#64, 0x600003c6#64, 0x12b1edeb#64, 0#64) := by decide +kernel
theorem test_ceInitv :
    after .ceInitv { abcLoaded with t := 64 } (fun e => (e.vars.a, e.vars.h, e.t)) =
      some (0x6a09e667#64, 0x5be0cd19#64, 0#7) := by decide +kernel
theorem test_ceRound_256 :
    after .ceRound abcLoaded.initVars (fun e => (e.vars, e.t)) =
      some (⟨0x5d6aebcd, 0x6a09e667, 0xbb67ae85, 0x3c6ef372, 0xfa2a4622, 0x510e527f, 0x9b05688c, 0x1f83d9ab⟩, 1#7) := by decide +kernel
theorem test_ceRound_512 :
    after .ceRound ({ engineAt .plain .compress .v512 with h := iv .v512, blk := block [0x61, 0x62, 0x63, 0x80] }).loadWords.initVars
      (fun e => (e.vars, e.t)) =
      some (⟨0xf6afceb8bcfcddf5, 0x6a09e667f3bcc908, 0xbb67ae8584caa73b, 0x3c6ef372fe94f82b,
        0x58cb02347ab51f91, 0x510e527fade682d1, 0x9b05688c2b3e6c1f, 0x1f83d9abfb41bd6b⟩, 1#7) := by decide +kernel
theorem test_ceFold :
    after .ceFold { abcLoaded with vars := ⟨0x506e3058, 0xd39a2165, 0, 0, 0, 0, 0, 0⟩ } (fun e => (e.h[0], e.h[1], e.h[2])) =
      some (0xba7816bf#64, 0x8f01cfea#64, 0x3c6ef372#64) := by decide +kernel
theorem test_ceBlock_256 :
    after .ceBlock { engineAt .plain .compress .v256 with h := iv .v256 } (fun e => (e.h, e.phase)) =
      some (words [0xda5698be, 0x17b9b469, 0x62335799, 0x779fbeca, 0x8ce5d491, 0xc0d26243, 0xbafef9ea, 0x1837a9d8], .assemble) := by
  decide +kernel
theorem test_ceBlock_512 :
    after .ceBlock { engineAt .plain .compress .v512 with h := iv .v512, term := true } (fun e => (e.h[0], e.h[7], e.phase)) =
      some (0xcf7881d5774acbe8#64, 0x91f4d80cbd668bee#64, .format) := by decide +kernel

/-! ## DigestFormatter (section 8) -/

/-- "512/224" of "abc" keeps half a word: its last bytes are `3e8924aa`, `DBUF[28]` is 0. -/
theorem test_dfRaw :
    after .dfRaw { engineAt .plain .format .v512t224 with
      h := words [0x4634270f707b6a54, 0xdaae7530460842e2, 0x0e37ed265ceee9a4, 0x3e8924aaf57c93d9] }
      (fun e => (e.dbuf.toList.take 4, (e.dbuf.toList.drop 24).take 5)) =
      some (bytes [0x46, 0x34, 0x27, 0x0f], bytes [0x3e, 0x89, 0x24, 0xaa, 0]) := by decide +kernel

/-- An engine with the first digest bytes of "224" of "abc" in `DBUF`. -/
def hashed224 (st : Stage) : Engine :=
  { engineAt st .format .v224 with dbuf := zeroFilled 64 (bytes [0x23, 0x09, 0x7d, 0x22]), text := true }

theorem test_dfText :
    (returned .dfText (hashed224 .plain)).map (fun o => match o with
      | .bytes b => (b.take 8, b.length, b.getLast?)
      | _ => ([], 0, none)) = some (bytes [0x32, 0x33, 0x30, 0x39, 0x37, 0x64, 0x32, 0x32], 57, some 0#8) := by decide +kernel
theorem test_dfRoute_output :
    after .dfRoute (hashed224 .plain) (fun e => (e.obuf.toList.take 8, e.obuf[56], e.rlen, e.dlen, e.olen)) =
      some (bytes [0x32, 0x33, 0x30, 0x39, 0x37, 0x64, 0x32, 0x32], 0#8, 7#4, 28#7, 57#8) := by decide +kernel
theorem test_dfRoute_inner :
    after .dfRoute (hashed224 .inner) (fun e => (e.innerd[0], e.obuf[0], e.olen)) = some (0x23#8, 0#8, 0#8) := by decide +kernel

/-! ## HmacComposer (section 10) -/

/-- `KLEN = B` copies, `KLEN = B + 1` hashes. -/
theorem test_hmDerivekey :
    after .hmDerivekey { engineAt .idle .init .v256 with klen := 64 } (fun e => (e.stage, e.phase, e.src, e.srcLen)) =
      some (.derivekey, .keycopy, .key, 64#64) ∧
    after .hmDerivekey { engineAt .idle .init .v256 with klen := 65 } (fun e => (e.stage, e.phase)) =
      some (.derivekey, .init) := by decide +kernel
theorem test_hmKeycopy :
    after .hmKeycopy { engineAt .derivekey .keycopy .v256 with
      src := .key, srcLen := 3, klen := 3, rcvd := 3, ra := bytes [0x6b, 0x65, 0x79], keyblk := Vector.replicate 128 9 }
      (fun e => (bytesAt e.keyblk [0, 2, 3, 127], e.ra, e.stage, e.phase)) =
      some (bytes [0x6b, 0x79, 0, 0], [], .buildpads, .init) := by decide +kernel
theorem test_hmKeyhash :
    after .hmKeyhash (hashed224 .derivekey) (fun e => (bytesAt e.keyblk [0, 1, 3, 28, 127], e.stage, e.phase)) =
      some (bytes [0x23, 0x09, 0x22, 0, 0], .buildpads, .init) := by decide +kernel
theorem test_hmBuildpads :
    after .hmBuildpads { engineAt .buildpads .init .v256 with keyblk := block [0x6b, 0x65, 0x79], mlen := 43 }
      (fun e => (bytesAt e.ikb [0, 1, 2, 3, 63, 64], bytesAt e.okb [0, 1, 2, 3, 63, 64], e.injv, e.stage, e.srcLen)) =
      some (bytes [0x5d, 0x53, 0x4f, 0x36, 0x36, 0], bytes [0x37, 0x39, 0x25, 0x5c, 0x5c, 0], true, .inner, 43#64) := by decide +kernel
theorem test_hmInner_waits :
    after .hmInner { engineAt .inner .init .v256 with src := .msg, srcLen := 43, mlen := 43 }
      (fun e => (e.phase, e.h[0], e.total)) = some (.assemble, 0x6a09e667#64, 43#65) := by decide +kernel
theorem test_hmOuter :
    after .hmOuter { hashed224 .inner with okb := block (List.replicate 64 0x5c) }
      (fun e => (e.innerd[0], e.stage, e.src, e.srcLen, e.iblk[63], e.iblk[64])) =
      some (0x23#8, .outer, .innerd, 28#64, 0x5c#8, 0#8) := by decide +kernel
theorem test_hmDone :
    after .hmDone { hashed224 .outer with text := false } (fun e => (e.stage, e.obuf[0], e.olen)) =
      some (.done, 0x23#8, 28#8) := by decide +kernel

/-! ## Sequencer -/

theorem test_drInit :
    after .drInit { engineAt .plain .init .v384 with srcLen := 0xffffffffffffffff, consumed := 5, term := true }
      (fun e => (e.h[0], e.total, e.consumed, e.term, e.phase)) =
      some (0xcbbb9d5dc1059ed8#64, 0x0ffffffffffffffff#65, 0#66, false, .assemble) := by decide +kernel

/-- "abc" in the window: the loop runs to the end of the digest run, `H[0]` of section 8. -/
theorem test_drLoop :
    after .drLoop { engineAt .plain .assemble .v256 with
      src := .msg, srcLen := 3, total := 3, h := iv .v256, ra := bytes [0x61, 0x62, 0x63] }
      (fun e => (e.h[0], e.h[7], e.phase)) = some (0xba7816bf#64, 0xf20015ad#64, .format) := by decide +kernel
theorem test_drEnd :
    after .drEnd { engineAt .plain .format .v256 with
      h := words [0xba7816bf, 0x8f01cfea, 0x414140de, 0x5dae2223, 0xb00361a3, 0x96177a9c, 0xb410ff61, 0xf20015ad] }
      (fun e => (e.stage, e.obuf.toList.take 8, (e.obuf.toList.drop 28).take 5, e.rlen, e.olen)) =
      some (.done, bytes [0xba, 0x78, 0x16, 0xbf, 0x8f, 0x01, 0xcf, 0xea], bytes [0xf2, 0x00, 0x15, 0xad, 0], 8#4, 32#8) := by decide +kernel

/-! ## Errors, reset and commands (sections 3 and 11) -/

theorem test_errEnter :
    after (.errEnter .sourceReadError) { engineAt .plain .compress .v256 with msgLen := 7, mlen := 7, h := iv .v256, ra := letters 3 }
      (fun e => (e.err, e.msgLen, e.mlen, e.h[0], e.ra)) =
      some (some .sourceReadError, 7#64, 0#64, 0#64, []) := by decide +kernel
theorem test_reset :
    after .reset { engineAt .plain .compress .v256 with msgLen := 7, keyLen := 9, ra := letters 3 } id = some Engine.reset := rfl
theorem test_wrCmd_errors :
    after (.wrCmd 0x00000090#32) Engine.reset (fun e => (e.stage, e.err)) = some (.error, some .unknownVariant) ∧
    after (.wrCmd 0x00000194#32) Engine.reset (fun e => (e.stage, e.err)) = some (.error, some .badCommand) := by decide +kernel
theorem test_wrCmd_starts :
    after (.wrCmd 0x000000B3#32) { Engine.reset with keyLen := 129 } (fun e => (e.stage, e.phase, e.name, e.text, e.oph)) =
      some (.derivekey, .init, .v512, true, true) ∧
    after (.wrCmd 0x000000B3#32) (engineAt .plain .init .v256) (fun e => (e.stage, e.name)) = some (.plain, .v256) := by
  decide +kernel
theorem test_digest :
    after (.digest true 1#3 false) { engineAt .done .format .v512 with msgLen := 3, olen := 64 }
      (fun e => (e.stage, e.phase, e.name, e.text, e.mlen, e.olen)) =
      some (.plain, .init, .v256, true, 3#64, 0#8) := by decide +kernel
theorem test_hmac :
    after (.hmac false 5#3 true) { Engine.reset with msgLen := 3, keyLen := 128 }
      (fun e => (e.stage, e.phase, e.name, e.klen, e.src, e.srcLen)) =
      some (.derivekey, .keycopy, .v512t256, 128#64, .key, 128#64) := by decide +kernel

/-! ## Register accesses (section 3; R62, R73, R75, R264) -/

theorem test_rdStatus :
    returned .rdStatus { engineAt .derivekey .keycopy .v256 with klen := 3 } = some (.bus 0x00000109#32) ∧
    returned .rdStatus { engineAt .inner .assemble .v256 with mlen := 3 } = some (.bus 0x00000311#32) ∧
    returned .rdStatus (engineAt .done .format .v256) = some (.bus 0x00000502#32) ∧
    returned .rdStatus (engineAt .error .init .v224) = some (.bus 0x00000704#32) := by decide +kernel
theorem test_rdErr : returned .rdErr { engineAt .error .init .v224 with err := some .keySourceError } = some (.bus 4#32) := by decide +kernel
theorem test_rdMsglenLo : returned .rdMsglenLo { Engine.reset with msgLen := 0x0123456789abcdef } = some (.bus 0x89abcdef#32) := by
  decide +kernel
theorem test_rdMsglenHi : returned .rdMsglenHi { Engine.reset with msgLen := 0x0123456789abcdef } = some (.bus 0x01234567#32) := by
  decide +kernel
theorem test_rdKeylenLo : returned .rdKeylenLo { Engine.reset with keyLen := 0x0123456789abcdef } = some (.bus 0x89abcdef#32) := by
  decide +kernel
theorem test_rdKeylenHi : returned .rdKeylenHi { Engine.reset with keyLen := 0x0123456789abcdef } = some (.bus 0x01234567#32) := by
  decide +kernel
theorem test_wrMsglenLo : after (.wrMsglenLo 0xffffffff#32) { Engine.reset with msgLen := 0x0123456789abcdef } (·.msgLen) =
    some 0x01234567ffffffff#64 := by decide +kernel
theorem test_wrMsglenHi : after (.wrMsglenHi 0xffffffff#32) { Engine.reset with msgLen := 0x0123456789abcdef } (·.msgLen) =
    some 0xffffffff89abcdef#64 := by decide +kernel
theorem test_wrKeylenLo : after (.wrKeylenLo 0#32) { Engine.reset with keyLen := 0x0123456789abcdef } (·.keyLen) =
    some 0x0123456700000000#64 := by decide +kernel
theorem test_wrKeylenHi : after (.wrKeylenHi 0#32) { Engine.reset with keyLen := 0x0123456789abcdef } (·.keyLen) =
    some 0x0000000089abcdef#64 := by decide +kernel
theorem test_rdRlen : returned .rdRlen { Engine.reset with rlen := 8 } = some (.bus 8#32) := by decide +kernel
theorem test_rdDlen : returned .rdDlen { Engine.reset with dlen := 64 } = some (.bus 64#32) := by decide +kernel
theorem test_rdOlen : returned .rdOlen { Engine.reset with olen := 129 } = some (.bus 129#32) := by decide +kernel

/-- Section 8: `ba 78 16 bf 8f 01 cf ea` reads as 0xbf1678ba and 0xeacf018f. -/
theorem test_rdObuf :
    returned (.rdObuf 1#6) { Engine.reset with obuf := zeroFilled 256 (bytes [0xba, 0x78, 0x16, 0xbf, 0x8f, 0x01, 0xcf, 0xea]) } =
      some (.bus 0xeacf018f#32) := by decide +kernel
theorem test_busNull :
    returned (.busNull (.read 0x034#9)) (engineAt .done .format .v256) = some (.bus 0#32) ∧
    after (.busNull (.write 0x100#9 7#32)) Engine.reset id = some Engine.reset := ⟨rfl, rfl⟩

/-- Section 11, P5d: OPENFAIL before the first byte and after it, and its priority; P5c: a key source's. -/
theorem test_wrDinctl :
    after (.wrDinctl 0x7#32) { engineAt .plain .init .v256 with mlen := 3 } (·.err) = some (some .sourceOpenError) ∧
    after (.wrDinctl 0x4#32) { engineAt .plain .init .v256 with mlen := 3, rcvd := 1 } (·.err) = some (some .sourceReadError) ∧
    after (.wrDinctl 0x1#32) { engineAt .derivekey .init .v256 with klen := 3 } (·.err) = some (some .keySourceError) ∧
    after (.wrDinctl 0x7#32) (engineAt .plain .init .v256) (·.stage) = some .plain := by decide +kernel

/-! ## Engines of a digest run of three bytes -/

/-- A plain digest of "256" with three message bytes declared. -/
def plain256 (ph : Phase) (total : BitVec 65) (rcvd : BitVec 64) (ra : List Byte) : Engine :=
  { engineAt .plain ph .v256 with src := .msg, srcLen := 3, mlen := 3, total := total, rcvd := rcvd, ra := ra }

theorem plain256_want (ph : Phase) (total : BitVec 65) : (plain256 ph total 1#64 [0x61#8]).want = 2 := by
  have h : 128 ≤ Config.raBytes := Config.raBytes_ge
  have hw : (plain256 ph total 1#64 [0x61#8]).want = min (min (Config.raBytes - 1) 2) (2 ^ 32 - 1) := rfl
  omega

/-- R42: with one byte of three received, `WANT` is 2. -/
theorem test_rdWant : returned .rdWant (plain256 .init 0 1#64 [0x61#8]) = some (.bus 2#32) := by
  have h : returned .rdWant (plain256 .init 0 1#64 [0x61#8]) =
      some (.bus (BitVec.ofNat 32 (plain256 .init 0 1#64 [0x61#8]).want)) := rfl
  rw [h, plain256_want]

/-- R73: the low byte of the value, at the end of the window. -/
theorem test_wrDin : after (.wrDin 0xffffff62#32) (plain256 .init 0 1#64 [0x61#8]) id =
    some (plain256 .init 0 2#64 [0x61#8, 0x62#8]) := by
  have h : after (.wrDin 0xffffff62#32) (plain256 .init 0 1#64 [0x61#8]) id =
      some ((plain256 .init 0 1#64 [0x61#8]).acceptByte (dinByte 0xffffff62#32)) := rfl
  rw [h, Engine.acceptByte, plain256_want, if_pos (by decide)]
  rfl

theorem plain256_inv (ph : Phase) (total : BitVec 65) (rcvd : BitVec 64) (ra : List Byte) (hra : ra.length ≤ 3)
    (hr : rcvd.toNat ≤ 3) (hpair : legalPair .plain ph = true) (hrun : (plain256 ph total rcvd ra).RunInv) :
    (plain256 ph total rcvd ra).Inv where
  idleZero h := by cases h
  errorState h := by cases h
  received _ _ := hr
  window := hra.trans ((by decide : 3 ≤ 128).trans Config.raBytes_ge)
  consumedBound := by simp [plain256, engineAt, Engine.reset]
  outputZero _ := ⟨rfl, rfl, rfl, rfl⟩
  errorCode := by simp [plain256, engineAt, Engine.reset]
  pair := hpair
  source := ⟨rfl, rfl⟩
  roundIndex := by simp [plain256, engineAt, Engine.reset]
  stateFits i _ := by simp [plain256, engineAt, Engine.reset]
  varsFit := by simp [Vars.Fits, Machine.Fits, plain256, engineAt, Engine.reset, Vars.zero]
  scheduleFits i _ := by simp [plain256, engineAt, Engine.reset]
  run _ := hrun

/-! ## Hypotheses that are met

For each obligation with hypotheses, clause by clause and at the edges of its ranges. -/

/-- A machine with packets to come. -/
def queued (l : List Packet) : State := { State.reset with sched := l }

/-- The answer is another state. -/
def answersNext (o : Outcome) : Bool :=
  match o with
  | .next _ => true
  | .fault _ | .refused _ => false

theorem witness_StepRunsDecodedOperation :
    ((queued [⟨.uop, bytes [0x71]⟩]).sched = [⟨.uop, bytes [0x71]⟩] ∧ decode .uop (bytes [0x71]) = .ok (.reset, [])) ∧
    decodeTableWord 8 0x71 = some .reset ∧
    decode .cmd (bytes [0x04, 0, 0, 0]) = .error (.reservedCommandBits 0x4#32) ∧
    decode .uop (bytes [0x2F]) = .error (.noOperation 0x2F#8) ∧ DecodeError.noOperation 0x2F#8 ≠ .reservedCommandBits 0 := by
  decide +kernel

theorem witness_EmptyQueueTakesCandidateStep :
    State.reset.sched = [] ∧ State.reset.eng.busy = false ∧
    ∀ p ∈ ([(.derivekey, .keycopy), (.buildpads, .init), (.derivekey, .init), (.outer, .assemble), (.plain, .compress),
      (.inner, .format)] : List (Stage × Phase)), ∃ s : State, s.sched = [] ∧ s.eng.stage = p.1 ∧ s.eng.phase = p.2 :=
  ⟨rfl, rfl, fun p _ => ⟨machine (engineAt p.1 p.2 .v256), rfl, rfl, rfl⟩⟩

theorem witness_DecodeEncodeAgree :
    (Instr.busNull (.write 0x1FC#9 0xffffffff#32)).wellFormed = true ∧ Instr.reset.wellFormed = true := by decide +kernel

theorem witness_DecodedOperationsAreWellFormed : decode .bus (bytes [0x34, 0x00]) = .ok (.busNull (.read 0x034#9), []) := by
  decide +kernel

/-- Aligned and misaligned offsets, at the ends of the window and of each listed range. -/
theorem witness_BusAccessesDecodeByTable :
    ((0x001#9).toNat % 4 ≠ 0 ∧ (0x1FF#9).toNat % 4 ≠ 0) ∧
    ((0x000#9).toNat % 4 = 0 ∧ (0x0FC#9).toNat % 4 = 0 ∧ (0x100#9).toNat % 4 = 0 ∧ (0x1FC#9).toNat % 4 = 0) := by decide +kernel

/-- The least and the greatest word of each command, and a word with each outermost reserved bit. -/
theorem witness_CommandWordsDecodeByMask :
    (0x00000000#32 &&& 0xFFFFFF0D#32 = 0x00000000#32 ∧ 0x000000F2#32 &&& 0xFFFFFF0D#32 = 0x00000000#32) ∧
    (0x00000001#32 &&& 0xFFFFFF0D#32 = 0x00000001#32 ∧ 0x000000F3#32 &&& 0xFFFFFF0D#32 = 0x00000001#32) ∧
    (0x00000004#32 &&& 0xFFFFFF0C#32 ≠ 0#32 ∧ 0x00000008#32 &&& 0xFFFFFF0C#32 ≠ 0#32 ∧
      0x00000100#32 &&& 0xFFFFFF0C#32 ≠ 0#32 ∧ 0x80000000#32 &&& 0xFFFFFF0C#32 ≠ 0#32) := by decide +kernel

/-- The amounts at both ends of the ranges R121 and R122 define. -/
theorem witness_RotateAndShiftRight :
    (0 < (1#8).toNat ∧ (1#8).toNat < 32) ∧ (0 < (31#8).toNat ∧ (31#8).toNat < 32) ∧ (0 < (63#8).toNat ∧ (63#8).toNat < 64) := by
  decide +kernel

theorem witness_SigmaFunctionsBitwise :
    (Instr.bsig1x32, 6, 11, 25) ∈ [(Instr.bsig0x32, 2, 13, 22), (Instr.bsig1x32, 6, 11, 25)] ∧
    (Instr.bsig1x64, 14, 18, 41) ∈ [(Instr.bsig0x64, 28, 34, 39), (Instr.bsig1x64, 14, 18, 41)] ∧
    (Instr.ssig1x32, 17, 19, 10) ∈ [(Instr.ssig0x32, 7, 18, 3), (Instr.ssig1x32, 17, 19, 10)] ∧
    (Instr.ssig1x64, 19, 61, 6) ∈ [(Instr.ssig0x64, 1, 8, 7), (Instr.ssig1x64, 19, 61, 6)] ∧ 31 < 32 ∧ 63 < 64 := by simp

theorem witness_AddChoiceMajority : 0 < 32 ∧ 31 < 32 ∧ 63 < 64 := by decide

theorem witness_ByteSwapReversesBytes : 0 < 4 ∧ 3 < 4 ∧ 7 < 8 := by decide

/-- The first and the last row of R152 with their initial vectors, and pairs of each kind that is none. -/
theorem witness_VariantLookup :
    (∀ r ∈ ([(0, false, .v224, .w32, 64, 64, 8, 7, 28, iv .v224), (5, true, .v512t256, .w64, 128, 80, 16, 4, 32, iv .v512t256)] :
        List (Nat × Bool × Variant × Width × Nat × Nat × Nat × Nat × Nat × Vector Word 8)), r ∈
        ([(0, false, .v224, .w32, 64, 64, 8, 7, 28,
            #v[0xc1059ed8, 0x367cd507, 0x3070dd17, 0xf70e5939,
               0xffc00b31, 0x68581511, 0x64f98fa7, 0xbefa4fa4]),
          (1, false, .v256, .w32, 64, 64, 8, 8, 32,
            #v[0x6a09e667, 0xbb67ae85, 0x3c6ef372, 0xa54ff53a,
               0x510e527f, 0x9b05688c, 0x1f83d9ab, 0x5be0cd19]),
          (2, true, .v384, .w64, 128, 80, 16, 6, 48,
            #v[0xcbbb9d5dc1059ed8, 0x629a292a367cd507, 0x9159015a3070dd17, 0x152fecd8f70e5939,
               0x67332667ffc00b31, 0x8eb44a8768581511, 0xdb0c2e0d64f98fa7, 0x47b5481dbefa4fa4]),
          (3, true, .v512, .w64, 128, 80, 16, 8, 64,
            #v[0x6a09e667f3bcc908, 0xbb67ae8584caa73b, 0x3c6ef372fe94f82b, 0xa54ff53a5f1d36f1,
               0x510e527fade682d1, 0x9b05688c2b3e6c1f, 0x1f83d9abfb41bd6b, 0x5be0cd19137e2179]),
          (4, true, .v512t224, .w64, 128, 80, 16, 4, 28,
            #v[0x8c3d37c819544da2, 0x73e1996689dcd4d6, 0x1dfab7ae32ff9c82, 0x679dd514582f9fcf,
               0x0f6d2b697bd44da8, 0x77e36f7304c48942, 0x3f9d85a86a1d36c8, 0x1112e6ad91d692a1]),
          (5, true, .v512t256, .w64, 128, 80, 16, 4, 32,
            #v[0x22312194fc2bf72c, 0x9f555fa3c84c64c2, 0x2393b86b6f53b151, 0x963877195940eabd,
               0x96283ee2a88effe3, 0xbe5e1e2553863992, 0x2b0199fc2c85b8aa, 0x0eb72ddc81c52ca2])] :
          List (Nat × Bool × Variant × Width × Nat × Nat × Nat × Nat × Nat × Vector Word 8))) ∧
    (0#3).toNat = 0 ∧ (5#3).toNat = 5 ∧
    ((0#3).toNat, true) ∉ [(0, false), (1, false), (2, true), (3, true), (4, true), (5, true)] ∧
    ((2#3).toNat, false) ∉ [(0, false), (1, false), (2, true), (3, true), (4, true), (5, true)] ∧
    ((6#3).toNat, true) ∉ [(0, false), (1, false), (2, true), (3, true), (4, true), (5, true)] := by decide +kernel

/-- The first and the last round of each width. -/
theorem witness_ConstantsAreRootsOfPrimes :
    (0#7).toNat < (engineAt .idle .init .v256).rounds ∧ (63#7).toNat < (engineAt .idle .init .v256).rounds ∧
    (79#7).toNat < (engineAt .idle .init .v512).rounds := by decide +kernel

/-- An outer run of "512": its source, the inner digest, has 64 bytes. -/
def outerRun (ipos : BitVec 7) : Engine :=
  { engineAt .outer .assemble .v512 with src := .innerd, srcLen := 64, ipos := ipos, total := 192, consumed := 128 }

theorem witness_SourceHandsOverInOrder :
    ((assembling .v256 3 0).src = .msg ∧ 3 ≤ (assembling .v256 3 0).srcAvail) ∧
    ((outerRun 64).src = .innerd ∧ (outerRun 64).ipos.toNat ≤ (outerRun 64).srcLen.toNat ∧ (outerRun 64).srcLen.toNat ≤ 64) ∧
    64 ≤ (outerRun 0).srcAvail ∧ 0 ≤ (outerRun 64).srcAvail := by decide +kernel

/-- Enabled with exactly the bytes needed and with an injected block; waiting for one byte; another phase. -/
theorem witness_NextBlockSelectsByRemaining :
    ((machine (assembling .v256 64 0)).eng.stage ∈ [Stage.derivekey, .inner, .outer, .plain] ∧
      (assembling .v256 64 0).phase = .assemble ∧
      min (max ((64 : Int) - 0) 0) (assembling .v256 64 0).blockSize ≤ (assembling .v256 64 0).srcAvail) ∧
    ({ assembling .v256 64 0 with injv := true }).injv = true ∧
    (({ assembling .v256 64 0 with ra := letters 63 }).injv = false ∧
      (({ assembling .v256 64 0 with ra := letters 63 }).srcAvail : Int) <
        min (max ((64 : Int) - 0) 0) (assembling .v256 64 0).blockSize) ∧
    (engineAt .plain .compress .v256).phase ≠ .assemble := by decide +kernel

theorem witness_InjectEmitsInjectedBlock : ({ outerRun 0 with injv := true }).injv = true := by decide +kernel

theorem witness_FullCopiesOneBlock :
    (assembling .v512 128 0).injv = false ∧
    ((assembling .v512 128 0).blockSize : Int) ≤ ((assembling .v512 128 0).total.toNat : Int) - (assembling .v512 128 0).consumed.toNat ∧
    (assembling .v512 128 0).blockSize ≤ (assembling .v512 128 0).srcAvail ∧ (assembling .v512 128 0).src ≠ .innerd := by
  decide +kernel

/-- `n` at its greatest value for each width, at 0, and for the inner digest. -/
theorem witness_FinalPadsAndEncodesLength :
    (∀ p ∈ ([(.v256, 0), (.v256, 55), (.v512, 111)] : List (Variant × Nat)),
      (assembling p.1 p.2 0).injv = false ∧
      (p.2 : Int) = ((assembling p.1 p.2 0).total.toNat : Int) - (assembling p.1 p.2 0).consumed.toNat ∧
      p.2 + 1 + (assembling p.1 p.2 0).lenField ≤ (assembling p.1 p.2 0).blockSize ∧
      p.2 ≤ (assembling p.1 p.2 0).srcAvail ∧ (assembling p.1 p.2 0).src ≠ .innerd) ∧
    (outerRun 0).injv = false ∧ (64 : Int) = ((outerRun 0).total.toNat : Int) - (outerRun 0).consumed.toNat ∧
    64 + 1 + (outerRun 0).lenField ≤ (outerRun 0).blockSize ∧ 64 ≤ (outerRun 0).srcAvail ∧
    ((outerRun 0).src = .innerd → (outerRun 0).srcLen.toNat ≤ 64) := by decide +kernel

/-- `n` at both ends of the two-block ending, for each width. -/
theorem witness_PadOnlyEndsWithZeros :
    ∀ p ∈ ([(.v256, 56), (.v256, 63), (.v512, 112), (.v512, 127)] : List (Variant × Nat)),
      (assembling p.1 p.2 0).injv = false ∧
      (p.2 : Int) = ((assembling p.1 p.2 0).total.toNat : Int) - (assembling p.1 p.2 0).consumed.toNat ∧
      p.2 < (assembling p.1 p.2 0).blockSize ∧
      (assembling p.1 p.2 0).blockSize < p.2 + 1 + (assembling p.1 p.2 0).lenField ∧
      p.2 ≤ (assembling p.1 p.2 0).srcAvail ∧ (assembling p.1 p.2 0).src ≠ .innerd := by decide +kernel

/-- `remaining` at -1 and at `-LF`. -/
theorem witness_LenOnlyCarriesLengthOnly :
    ∀ p ∈ ([(63, 64), (56, 64)] : List (Nat × Nat)), (assembling .v256 p.1 p.2).injv = false ∧
      ((assembling .v256 p.1 p.2).total.toNat : Int) - (assembling .v256 p.1 p.2).consumed.toNat < 0 := by decide +kernel

/-- The first and the last word, and the first and the last byte of a word, of each width. -/
theorem witness_NormReadsWordsBigEndian :
    0 < 16 ∧ 15 < 16 ∧ 0 < (engineAt .plain .compress .v256).width.bytes ∧ 7 < (engineAt .plain .compress .v512).width.bytes := by
  decide +kernel

/-- The ranges of `remaining` that shut each block operation out, at their ends, a block that waits for one byte, and the stages and
phases that shut the other operations out. -/
theorem witness_WaitingOperationsChangeNothing :
    ({ outerRun 0 with injv := true }).injv = true ∧ (outerRun 0).injv = false ∧
    (63 : Int) < (assembling .v256 63 0).blockSize ∧ (0 : Int) ≤ 0 ∧
    (-1 : Int) < 0 ∧ ((assembling .v256 64 0).blockSize : Int) ≤ 64 ∧
    ((assembling .v256 56 0).blockSize : Int) - (56 + 1) < (assembling .v256 56 0).lenField ∧
    ((assembling .v256 55 0).lenField : Int) ≤ (assembling .v256 55 0).blockSize - (55 + 1) ∧
    (({ assembling .v256 64 0 with ra := letters 63 }).srcAvail : Int) <
      min (max ((64 : Int) - 0) 0) (assembling .v256 64 0).blockSize ∧
    (engineAt .plain .compress .v256).rounds ≤ ({ engineAt .plain .compress .v256 with t := 64 }).t.toNat ∧
    Stage.buildpads ∉ [Stage.derivekey, .inner, .outer, .plain] ∧ Phase.keycopy ≠ .init ∧ Phase.init ≠ .assemble ∧
    Phase.init ≠ .compress ∧ Phase.init ≠ .format ∧ Phase.init ≠ .keycopy ∧ Stage.inner ≠ .derivekey ∧
    Stage.inner ≠ .buildpads ∧ Stage.derivekey ≠ .inner ∧ Stage.inner ≠ .outer ∧ (engineAt .inner .format .v256).busy = true ∧
    ({ engineAt .derivekey .keycopy .v256 with klen := 1 }).srcAvail <
      ({ engineAt .derivekey .keycopy .v256 with klen := 1 }).klen.toNat := by decide +kernel

theorem witness_LoadWordsBigEndian :
    (15 : Fin 80).val < 16 ∧ 16 ≤ (16 : Fin 80).val ∧ 7 < (engineAt .plain .compress .v512).width.bytes := by decide +kernel

/-- The first and the last computed entry of each width, and an entry left alone. -/
theorem witness_ScheduleMeetsRecurrence :
    (engineAt .plain .compress .v512).width = .w64 ∧ (engineAt .plain .compress .v256).width = .w32 ∧ 16 ≤ 16 ∧ 63 < 64 ∧
    79 < 80 ∧ (engineAt .plain .compress .v256).rounds ≤ 64 ∧ 15 < 16 := by decide +kernel

/-- The first and the last round of each width, and the sums they are stated with. -/
theorem witness_RoundAndFold :
    (engineAt .plain .compress .v512).width = .w64 ∧ ({ engineAt .plain .compress .v512 with t := 79 }).t.toNat < 80 ∧
    (engineAt .plain .compress .v256).width = .w32 ∧ ({ engineAt .plain .compress .v256 with t := 63 }).t.toNat < 64 ∧
    [1#64, 2, 3, 4, 5, 6, 7, 8][(7 : Fin 8).val]? = some 8#64 := by decide +kernel

theorem witness_BlockIsItsFiveParts :
    (engineAt .outer .compress .v512).stage ∈ [Stage.derivekey, .inner, .outer, .plain] ∧
    (engineAt .outer .compress .v512).phase = .compress := by decide +kernel

/-- Two engines with the same words and block, and another source, stage and counters. -/
theorem witness_CompressionIsAFunctionOfStateAndBlock :
    (engineAt .plain .compress .v256).blockEnabled = true ∧
    ({ engineAt .outer .compress .v256 with total := 9, ra := letters 2 }).blockEnabled = true ∧
    (engineAt .plain .compress .v256).name = ({ engineAt .outer .compress .v256 with total := 9, ra := letters 2 }).name ∧
    (engineAt .plain .compress .v256).h = ({ engineAt .outer .compress .v256 with total := 9, ra := letters 2 }).h ∧
    (engineAt .plain .compress .v256).blk = ({ engineAt .outer .compress .v256 with total := 9, ra := letters 2 }).blk := by
  decide +kernel

/-- The last digest byte and the first byte after it. -/
theorem witness_RawDigestIsBigEndianTruncated :
    ((hashed224 .plain).name, 4, 28) ∈ ([(.v224, 4, 28), (.v256, 4, 32), (.v384, 8, 48), (.v512, 8, 64), (.v512t224, 8, 28),
      (.v512t256, 8, 32)] : List (Variant × Nat × Nat)) ∧
    (27 : Fin 64).val < 28 ∧ 28 ≤ (28 : Fin 64).val ∧ (63 : Fin 64).val < 64 := by decide +kernel

theorem witness_TextIsLowercaseHex :
    0 < (hashed224 .plain).digestLength ∧ 63 < (engineAt .plain .format .v512).digestLength := by decide +kernel

theorem witness_RouteByStage :
    (hashed224 .derivekey).stage = .derivekey ∧ (hashed224 .inner).stage = .inner ∧ (hashed224 .outer).stage = .outer ∧
    (hashed224 .plain).text = true ∧ ({ hashed224 .plain with text := false }).text = false := by decide +kernel

theorem witness_DeriveKeySelectsPath : (engineAt .error .init .v224).busy = false ∧ (engineAt .done .format .v512).busy = false := by
  decide +kernel

/-- The empty key, and a key of one block; a key with its last byte to come. -/
theorem witness_KeyCopyPadsWithZeros :
    (∀ n ∈ [0, 128], ∃ e : Engine, e.stage = .derivekey ∧ e.phase = .keycopy ∧ e.klen.toNat = n ∧ e.klen.toNat ≤ e.srcAvail ∧
      (e.src = .innerd → e.srcLen.toNat ≤ 64)) ∧
    ({ engineAt .derivekey .keycopy .v512 with src := .key, klen := 2, ra := letters 1 }).srcAvail < (2#64).toNat := by
  refine ⟨fun n hn => ?_, by decide +kernel⟩
  refine ⟨{ engineAt .derivekey .keycopy .v512 with src := .key, klen := BitVec.ofNat 64 n, ra := letters n }, rfl, rfl, ?_⟩
  revert n; decide +kernel

theorem witness_KeyHashAndDone :
    (hashed224 .derivekey).stage = .derivekey ∧ (hashed224 .derivekey).phase = .format ∧
    (hashed224 .outer).stage = .outer ∧ (hashed224 .outer).phase = .format := by decide +kernel

theorem witness_BuildPadsXorsKey :
    (engineAt .buildpads .init .v256).stage = .buildpads ∧ (engineAt .buildpads .init .v256).phase = .init := by decide +kernel

theorem witness_OuterRunStartsFromInnerDigest : (hashed224 .inner).stage = .inner ∧ (hashed224 .inner).phase = .format := by
  decide +kernel

theorem witness_RunInitLoadsVector :
    (engineAt .outer .init .v384).stage ∈ [Stage.derivekey, .inner, .outer, .plain] ∧ (engineAt .outer .init .v384).phase = .init := by
  decide +kernel

theorem witness_NamedRunsAreTheirSteps :
    ((outerRun 0).src = .innerd ∧ (outerRun 0).srcLen.toNat ≤ 64) ∧ (engineAt .inner .init .v256).stage = .inner ∧
    (engineAt .inner .init .v256).phase = .init ∧ (engineAt .inner .compress .v256).phase ≠ .init ∧ Stage.plain ≠ .inner := by
  decide +kernel

theorem witness_RunEndHandsOver :
    ∀ st ∈ [Stage.derivekey, .inner, .outer, .plain], (hashed224 st).phase = .format ∧ (hashed224 st).stage = st := by decide +kernel

theorem witness_SequencerFollowsTransitionTable :
    (machine (engineAt .plain .init .v256)).sched = [] ∧ answersNext (step (machine (engineAt .plain .init .v256))) = true := by
  decide +kernel

theorem witness_EngineStepsNeverRaise :
    Instr.drEnd ∈ [Instr.hmKeycopy, .hmBuildpads, .drInit, .baNext, .ceBlock, .drEnd] ∧
    after .drEnd (hashed224 .plain) (·.stage) = some .done ∧
    answersNext (exec .hmBuildpads (machine (engineAt .buildpads .init .v256))) = true := by decide +kernel

/-- A busy engine; at rest a word with a reserved bit, a pair that is no variant, a command. -/
theorem witness_CommandWordsInPriority :
    (engineAt .plain .init .v256).busy = true ∧ Engine.reset.busy = false ∧
    0x80000010#32 &&& 0xFFFFFF0C#32 ≠ 0#32 ∧
    (0x00000090#32 &&& 0xFFFFFF0C#32 = 0#32 ∧ ((0x00000090#32).extractLsb' 4 3).toNat = 1 ∧ (0x00000090#32).getLsbD 7 = true ∧
      (1, true) ∉ [(0, false), (1, false), (2, true), (3, true), (4, true), (5, true)]) ∧
    0x000000D1#32 &&& 0xFFFFFF0C#32 = 0#32 := by decide +kernel

theorem witness_DigestStartsPlainRun :
    (engineAt .error .init .v224).busy = false ∧
    ((5#3).toNat, true, Variant.v512t256) ∈ ([(0, false, .v224), (1, false, .v256), (2, true, .v384), (3, true, .v512),
      (4, true, .v512t224), (5, true, .v512t256)] : List (Nat × Bool × Variant)) := by decide +kernel

/-- The greatest key that is copied and the least that is hashed, for each width. -/
theorem witness_HmacStartsKeyDerivation :
    (∀ k ∈ [64, 65, 128, 129], ({ Engine.reset with keyLen := BitVec.ofNat 64 k }).busy = false) ∧
    ((0#3).toNat, false, Variant.v224) ∈ ([(0, false, .v224), (1, false, .v256), (2, true, .v384), (3, true, .v512),
      (4, true, .v512t224), (5, true, .v512t256)] : List (Nat × Bool × Variant)) := by decide +kernel

theorem witness_AcceptedCommandForgetsThePast :
    Engine.reset.busy = false ∧ (hashed224 .done).busy = false ∧ Engine.reset.msgLen = (hashed224 .done).msgLen ∧
    Engine.reset.keyLen = (hashed224 .done).keyLen := by decide +kernel

/-- A byte wanted; no request; the last byte received; a window that is full (of zeros, as many as it holds). -/
theorem witness_DinAppendsWhenWanted :
    ((plain256 .init 0 2#64 [0x61#8, 0x62#8]).req ≠ 0#2 ∧
      (plain256 .init 0 2#64 [0x61#8, 0x62#8]).ra.length < Config.raBytes ∧
      (plain256 .init 0 2#64 [0x61#8, 0x62#8]).rcvd.toNat < (plain256 .init 0 2#64 [0x61#8, 0x62#8]).srcLen.toNat) ∧
    Engine.reset.req = 0#2 ∧ (plain256 .init 0 3#64 []).srcLen.toNat ≤ (plain256 .init 0 3#64 []).rcvd.toNat ∧
    Config.raBytes ≤ (plain256 .init 0 1#64 (List.replicate Config.raBytes 0)).ra.length := by
  refine ⟨⟨by decide +kernel, ?_, by decide +kernel⟩, by decide +kernel, by decide +kernel, by simp [plain256]⟩
  exact (by decide : 2 < 128).trans_le Config.raBytes_ge

/-- No request; a key request; a message request before the first byte and after it. -/
theorem witness_DinctlRaisesByPriority :
    Engine.reset.req = 0#2 ∧ ({ engineAt .derivekey .init .v256 with klen := 1 }).req = 1#2 ∧
    (plain256 .init 0 0#64 []).req = 2#2 ∧ (plain256 .init 0 0#64 []).rcvd = 0 ∧
    (plain256 .init 0 2#64 []).req = 2#2 ∧ (plain256 .init 0 2#64 []).rcvd ≠ 0 ∧
    (0x7#32).getLsbD 2 = true ∧ ((0x3#32).getLsbD 2 = false ∧ ((0x3#32).getLsbD 0 || (0x3#32).getLsbD 1) = true) ∧
    ((0xfffffff8#32).getLsbD 0 || (0xfffffff8#32).getLsbD 1 || (0xfffffff8#32).getLsbD 2) = false := by decide +kernel

/-- `REQ` 1, 2 and 0, the last at the last byte. -/
theorem witness_StatusRegistersReadDerivedSignals :
    ((engineAt .derivekey .init .v256).stage = .derivekey ∧
      ({ engineAt .derivekey .init .v256 with klen := 1 }).rcvd.toNat < ({ engineAt .derivekey .init .v256 with klen := 1 }).klen.toNat) ∧
    (plain256 .init 0 2#64 []).rcvd.toNat < (plain256 .init 0 2#64 []).mlen.toNat ∧
    ¬(plain256 .init 0 3#64 []).rcvd.toNat < (plain256 .init 0 3#64 []).mlen.toNat := by decide +kernel

theorem witness_OutputAndNullAccesses : 0 < 4 ∧ 3 < 4 := by decide

/-- Two engines that agree on what can be read and differ in what cannot. -/
theorem witness_HostReadsHideInternalState :
    Instr.rdStatus ∈ [Instr.rdStatus, .rdErr, .rdWant, .rdMsglenLo, .rdMsglenHi, .rdKeylenLo, .rdKeylenHi, .rdRlen, .rdDlen, .rdOlen] ∧
    ∃ e₁ e₂ : Engine, e₁ ≠ e₂ ∧ e₁.stage = e₂.stage ∧ e₁.err = e₂.err ∧ e₁.rcvd = e₂.rcvd ∧ e₁.srcLen = e₂.srcLen ∧
      e₁.klen = e₂.klen ∧ e₁.mlen = e₂.mlen ∧ e₁.msgLen = e₂.msgLen ∧ e₁.keyLen = e₂.keyLen ∧ e₁.ra.length = e₂.ra.length ∧
      e₁.rlen = e₂.rlen ∧ e₁.dlen = e₂.dlen ∧ e₁.olen = e₂.olen ∧ e₁.obuf = e₂.obuf :=
  ⟨by decide +kernel, engineAt .plain .init .v256, { engineAt .plain .init .v256 with keyblk := Vector.replicate 128 1, t := 5 },
    by decide +kernel, rfl, rfl, rfl, rfl, rfl, rfl, rfl, rfl, rfl, rfl, rfl, rfl, rfl⟩

/-- A run about to start, whose message is delivered. -/
theorem delivered_inv : (plain256 .init 0 3#64 (letters 3)).Inv :=
  plain256_inv _ _ _ _ (by decide) (by decide) rfl (by decide +kernel : _ ∧ _ ∧ _)

/-- A run about to start, with two bytes still to come. -/
theorem receiving_inv : (plain256 .init 0 1#64 [0x61#8]).Inv :=
  plain256_inv _ _ _ _ (by decide) (by decide) rfl (by decide +kernel : _ ∧ _ ∧ _)

/-- `RCVD` and what remains are `SRCLEN` and the window. -/
theorem waiting_count : (plain256 .assemble 3 1#64 [0x61#8]).rcvd.toNat + (plain256 .assemble 3 1#64 [0x61#8]).remaining.toNat =
    (plain256 .assemble 3 1#64 [0x61#8]).srcLen.toNat + (plain256 .assemble 3 1#64 [0x61#8]).ra.length := by decide +kernel

/-- A run that waits for the last two bytes of its block. -/
theorem waiting_inv : (plain256 .assemble 3 1#64 [0x61#8]).Inv :=
  plain256_inv _ _ _ _ (by decide) (by decide) rfl
    ⟨⟨by decide +kernel, by decide +kernel, by decide +kernel, waiting_count⟩, by decide +kernel⟩

theorem witness_InvariantIsKept :
    (machine (plain256 .init 0 3#64 (letters 3))).Inv ∧
    step (machine (plain256 .init 0 3#64 (letters 3))) =
      .next (machine { plain256 .assemble 3 3#64 (letters 3) with h := iv .v256 }) :=
  ⟨⟨delivered_inv, by simp [machine, State.reset]⟩, rfl⟩

theorem witness_RestingStatesStay :
    Stage.done ∈ [Stage.idle, .done, .error] ∧ (Instr.wrMsglenLo 5#32).isAgentStep = true ∧
    answersNext (exec (.wrMsglenLo 5#32) (machine (hashed224 .done))) = true ∧ Instr.wrMsglenLo 5#32 ≠ .reset := by decide +kernel

/-- One run that moves and one that waits. -/
theorem witness_WaitingEngineWantsBytes :
    (plain256 .init 0 1#64 [0x61#8]).Inv ∧ (plain256 .init 0 1#64 [0x61#8]).busy = true ∧
    (plain256 .assemble 3 1#64 [0x61#8]).Inv ∧ (plain256 .assemble 3 1#64 [0x61#8]).busy = true ∧ State.reset.sched = [] :=
  ⟨receiving_inv, rfl, waiting_inv, rfl, rfl⟩

theorem witness_DeliveryCommutesWithEngineSteps :
    (plain256 .init 0 1#64 [0x61#8]).Inv ∧ (plain256 .init 0 1#64 [0x61#8]).candidate = some .drInit ∧
    0 < (plain256 .init 0 1#64 [0x61#8]).want ∧
    exec .drInit (machine (plain256 .init 0 1#64 [0x61#8])) ≠ .next (machine (plain256 .init 0 1#64 [0x61#8])) := by
  refine ⟨receiving_inv, rfl, by rw [plain256_want]; decide, fun h => ?_⟩
  have hp := congrArg (fun o : Outcome => match o with
    | .next t => some t.eng.phase
    | .fault _ | .refused _ => none) h
  exact absurd hp (by decide +kernel)

theorem witness_DeliveredDigestCompletes :
    (plain256 .init 0 3#64 (letters 3)).Inv ∧ (machine (plain256 .init 0 3#64 (letters 3))).sched = [] ∧
    (plain256 .init 0 3#64 (letters 3)).stage = .plain ∧ (plain256 .init 0 3#64 (letters 3)).phase = .init ∧
    (plain256 .init 0 3#64 (letters 3)).rcvd = (plain256 .init 0 3#64 (letters 3)).mlen ∧
    1 = ((plain256 .init 0 3#64 (letters 3)).mlen.toNat + 1 + (plain256 .init 0 3#64 (letters 3)).lenField +
      (plain256 .init 0 3#64 (letters 3)).blockSize - 1) / (plain256 .init 0 3#64 (letters 3)).blockSize :=
  ⟨delivered_inv, rfl, rfl, rfl, rfl, by decide +kernel⟩

end Sys2Proof.Tests
end

