-- ==== Sys2Proof/Proofs/Scope.lean ====
section
/-! PROOF. Operations that are not enabled (R18): what switches each condition off, and that the operation then changes nothing. -/

namespace Sys2Proof.Machine

/-! ## The block operations (R171, R173 to R180) -/

/-- The operation that performs a block operation on its own. -/
def BlockOp.instr : BlockOp → Instr
  | .inject => .baInject
  | .full => .baFull
  | .final => .baFinal
  | .padOnly => .baPadonly
  | .lenOnly => .baLenonly

theorem exec_blockOp (op : BlockOp) (s : State) :
    exec op.instr s = s.actIf (s.eng.blockOpEnabled op) (s.eng.blockStep op) := by
  cases op <;> rfl

theorem exec_blockOp_of_not_selected {s : State} {op : BlockOp} (h : s.eng.selectBlockOp ≠ op) :
    exec op.instr s = .next s := by
  rw [exec_blockOp]
  exact State.actIf_false _ (by simp [Engine.blockOpEnabled, h])

theorem exec_blockOp_of_source_short {s : State} {op : BlockOp} (hop : op ≠ .inject)
    (h : s.eng.srcAvail < s.eng.need) : exec op.instr s = .next s := by
  rw [exec_blockOp]
  exact State.actIf_false _ (by simp [Engine.blockOpEnabled, Engine.sourceReady, hop, h])

/-- What each of some block operations does, each of their instructions does. -/
theorem forall_blockOps {s : State} {ops : List BlockOp} (h : ∀ op ∈ ops, exec op.instr s = .next s) :
    ∀ i ∈ ops.map BlockOp.instr, exec i s = .next s := List.forall_mem_map.2 h

/-- `need` as R171 writes it, over the integers. -/
theorem Engine.need_cast (e : Engine) : (e.need : Int) = min (max e.remaining 0) e.blockSize := by
  simp [Engine.need]

/-! ## The steps of a digest run (R259 to R262) -/

/-- The four steps of a digest run, each with the phase it belongs to (R262). -/
def runSteps : List (Instr × Phase) :=
  [(.drInit, .init), (.baNext, .assemble), (.ceBlock, .compress), (.drEnd, .format)]

theorem exec_runStep_of_not_atPhase {s : State} {i : Instr} {p : Phase} (hi : (i, p) ∈ runSteps)
    (h : s.eng.atPhase p = false) : exec i s = .next s := by
  simp only [runSteps, List.mem_cons, Prod.mk.injEq, List.not_mem_nil, or_false] at hi
  obtain ⟨rfl, rfl⟩ | ⟨rfl, rfl⟩ | ⟨rfl, rfl⟩ | ⟨rfl, rfl⟩ := hi
  · exact State.actIf_false _ h
  · exact State.actIf_false _ (by simp [Engine.nextEnabled, h])
  · exact State.actIf_false _ h
  · exact State.actIf_false _ h

theorem Stage.isRun_iff (st : Stage) : st.isRun = true ↔ st ∈ [Stage.derivekey, .inner, .outer, .plain] := by
  cases st <;> decide

theorem exec_runStep_of_phase_ne {s : State} {i : Instr} {p : Phase} (hi : (i, p) ∈ runSteps)
    (h : s.eng.phase ≠ p) : exec i s = .next s :=
  exec_runStep_of_not_atPhase hi (by simp [Engine.atPhase, h])

theorem exec_runStep_of_not_run {s : State} {i : Instr} {p : Phase} (hi : (i, p) ∈ runSteps)
    (h : s.eng.stage.isRun = false) : exec i s = .next s :=
  exec_runStep_of_not_atPhase hi (by simp [Engine.atPhase, h])

/-- A stage without a digest run has no digest to route (R226; log 12). -/
theorem exec_dfRoute_of_not_run {s : State} (h : s.eng.stage.isRun = false) : exec .dfRoute s = .next s := by
  have hroute : s.eng.route = s.eng := by
    unfold Engine.route
    cases hs : s.eng.stage <;> simp_all [Stage.isRun]
  calc exec .dfRoute s = .next (s.withEng s.eng.route) := rfl
    _ = .next s := by rw [hroute, State.withEng_self]

/-! ## The round and the steps of the HMAC composition (R204, R235 to R242) -/

theorem exec_ceRound_of_rounds_le {s : State} (h : s.eng.rounds ≤ s.eng.t.toNat) : exec .ceRound s = .next s :=
  State.actIf_false _ (by simpa [Engine.roundEnabled] using h)

theorem exec_hmDerivekey_of_busy {s : State} (h : s.eng.busy = true) : exec .hmDerivekey s = .next s :=
  State.actIf_false _ (by simp [Engine.deriveKeyEnabled, h])

theorem exec_hmKeycopy_of_not_enabled {s : State}
    (h : s.eng.stage ≠ .derivekey ∨ s.eng.phase ≠ .keycopy ∨ s.eng.srcAvail < s.eng.klen.toNat) :
    exec .hmKeycopy s = .next s :=
  State.actIf_false _ (by simpa [Engine.keyCopyEnabled, imp_iff_not_or, or_assoc] using h)

/-- The condition of an HMAC step that belongs to one stage and one phase. -/
theorem stagePhase_eq_false {e : Engine} {st : Stage} {p : Phase} (h : e.stage ≠ st ∨ e.phase ≠ p) :
    (decide (e.stage = st) && decide (e.phase = p)) = false := by
  simpa [imp_iff_not_or] using h

theorem exec_hmBuildpads_of_not_enabled {s : State} (h : s.eng.stage ≠ .buildpads ∨ s.eng.phase ≠ .init) :
    exec .hmBuildpads s = .next s := State.actIf_false _ (stagePhase_eq_false h)

theorem exec_hmKeyhash_of_not_enabled {s : State} (h : s.eng.stage ≠ .derivekey ∨ s.eng.phase ≠ .format) :
    exec .hmKeyhash s = .next s := State.actIf_false _ (stagePhase_eq_false h)

theorem exec_hmOuter_of_not_enabled {s : State} (h : s.eng.stage ≠ .inner ∨ s.eng.phase ≠ .format) :
    exec .hmOuter s = .next s := State.actIf_false _ (stagePhase_eq_false h)

theorem exec_hmDone_of_not_enabled {s : State} (h : s.eng.stage ≠ .outer ∨ s.eng.phase ≠ .format) :
    exec .hmDone s = .next s := State.actIf_false _ (stagePhase_eq_false h)

/-! ## The obligation -/

/-- The clauses on the block operation R171 selects: by `INJV` and by `remaining`. -/
theorem exec_blockOps_of_not_selected (s : State) :
    (s.eng.injv = true → ∀ i ∈ [Instr.baFull, .baFinal, .baPadonly, .baLenonly], exec i s = .next s) ∧
    (s.eng.injv = false → exec .baInject s = .next s) ∧
    (s.eng.remaining < s.eng.blockSize → exec .baFull s = .next s) ∧
    (0 ≤ s.eng.remaining → exec .baLenonly s = .next s) ∧
    (s.eng.remaining < 0 ∨ s.eng.blockSize ≤ s.eng.remaining →
      ∀ i ∈ [Instr.baFinal, .baPadonly], exec i s = .next s) ∧
    (s.eng.blockSize - (s.eng.remaining + 1) < s.eng.lenField → exec .baFinal s = .next s) ∧
    (s.eng.lenField ≤ s.eng.blockSize - (s.eng.remaining + 1) → exec .baPadonly s = .next s) := by
  have waits (op : BlockOp) (h : s.eng.selectBlockOp ≠ op) : exec op.instr s = .next s :=
    exec_blockOp_of_not_selected h
  refine ⟨fun hinj => forall_blockOps (ops := [.full, .final, .padOnly, .lenOnly]) fun op hop => waits op ?_,
    fun hinj => waits .inject ?_, fun hrem => waits .full ?_, fun hrem => waits .lenOnly ?_,
    fun hrem => forall_blockOps (ops := [.final, .padOnly]) fun op hop => waits op ?_,
    fun hlen => waits .final ?_, fun hlen => waits .padOnly ?_⟩
  · rw [Engine.select_inject.2 hinj]
    rintro rfl
    simp at hop
  · simp [Engine.select_inject, hinj]
  · rw [Ne, Engine.select_full]; omega
  · rw [Ne, Engine.select_lenOnly]; omega
  · simp only [List.mem_cons, List.not_mem_nil, or_false] at hop
    obtain rfl | rfl := hop
    · rw [Ne, Engine.select_final]; omega
    · rw [Ne, Engine.select_padOnly]; omega
  · rw [Ne, Engine.select_final]; omega
  · rw [Ne, Engine.select_padOnly]; omega

/-- The clause on a block operation whose source bytes are not there. -/
theorem exec_blockOps_of_source_short {s : State}
    (h : s.eng.srcAvail < min (max s.eng.remaining 0) s.eng.blockSize) :
    ∀ i ∈ [Instr.baFull, .baFinal, .baPadonly], exec i s = .next s := by
  have hneed : s.eng.srcAvail < s.eng.need := by
    rw [← Engine.need_cast] at h
    exact_mod_cast h
  refine forall_blockOps (ops := [.full, .final, .padOnly]) fun op hop => exec_blockOp_of_source_short ?_ hneed
  rintro rfl
  simp at hop

/-- The clause on the operations of a digest run outside its stages. -/
theorem exec_runOps_of_stage {s : State} (h : s.eng.stage ∉ [Stage.derivekey, .inner, .outer, .plain]) :
    ∀ i ∈ [Instr.dfRoute, .drInit, .baNext, .ceBlock, .drEnd], exec i s = .next s := by
  have hrun : s.eng.stage.isRun = false := Bool.eq_false_iff.2 fun hr => h ((Stage.isRun_iff _).1 hr)
  exact List.forall_mem_cons.2 ⟨exec_dfRoute_of_not_run hrun,
    (List.forall_mem_map (l := runSteps) (f := Prod.fst)).2 fun _ hi => exec_runStep_of_not_run hi hrun⟩

/-- Settles O23: each clause is a condition of the operation that fails. -/
theorem waitingOperationsChangeNothing : Obligations.WaitingOperationsChangeNothing := by
  unfold Obligations.WaitingOperationsChangeNothing
  intro s remaining hr
  obtain rfl : remaining = s.eng.remaining := hr
  obtain ⟨hinjected, hinject, hfull, hlenOnly, htail, hfinal, hpadOnly⟩ := exec_blockOps_of_not_selected s
  exact ⟨rfl, hinjected, hinject, hfull, hlenOnly, htail, hfinal, hpadOnly,
    exec_blockOps_of_source_short,
    exec_ceRound_of_rounds_le,
    exec_runOps_of_stage,
    exec_runStep_of_phase_ne (by simp [runSteps]),
    exec_runStep_of_phase_ne (by simp [runSteps]),
    exec_runStep_of_phase_ne (by simp [runSteps]),
    exec_runStep_of_phase_ne (by simp [runSteps]),
    exec_hmKeycopy_of_not_enabled,
    exec_hmBuildpads_of_not_enabled,
    exec_hmDerivekey_of_busy,
    exec_hmKeyhash_of_not_enabled,
    exec_hmOuter_of_not_enabled,
    exec_hmDone_of_not_enabled⟩

end Sys2Proof.Machine
end

section
/-! PROOF. The engine's state over time: what a step of the agents can do to it (R255, R320), that each such step keeps the
invariant (R45, R262), that reset meets it (R320), and that an accepted command forgets what came before (R20, R321). -/

namespace Sys2Proof.Machine

/-! ## Commands forget the past (R20, R321) -/

/-- What step 1 of R256 leaves is determined by the two lengths. -/
theorem Engine.cleared_eq_cleared {e₁ e₂ : Engine} (hm : e₁.msgLen = e₂.msgLen) (hk : e₁.keyLen = e₂.keyLen) :
    e₁.cleared = e₂.cleared := by simp only [Engine.cleared, hm, hk]

/-- A command reads the cleared engine alone. -/
theorem Engine.acceptWord_eq_of_cleared_eq {e₁ e₂ : Engine} (v : BitVec 32) (h : e₁.cleared = e₂.cleared) :
    e₁.acceptWord v = e₂.acceptWord v := by simp only [Engine.acceptWord, h]

theorem exec_wrCmd_of_not_busy {s : State} (v : BitVec 32) (h : s.eng.busy = false) :
    exec (.wrCmd v) s = .next (s.withEng (s.eng.acceptWord v)) :=
  State.actIf_true _ (by simp [h])

/-- Settles O47: both engines are cleared to the same one before the word is read. -/
theorem acceptedCommandForgetsThePast : Obligations.AcceptedCommandForgetsThePast := by
  unfold Obligations.AcceptedCommandForgetsThePast
  intro s₁ s₂ v h₁ h₂ hm hk
  refine ⟨s₁.eng.acceptWord v, exec_wrCmd_of_not_busy v h₁, ?_⟩
  rw [Engine.acceptWord_eq_of_cleared_eq v (Engine.cleared_eq_cleared hm hk)]
  exact exec_wrCmd_of_not_busy v h₂

/-! ## What an agent's step can do (R255, R320) -/

/-- The engines an agent's step can leave, one constructor for each kind of step. -/
inductive AgentMove (e : Engine) : Engine → Prop where
  | stay : AgentMove e e
  | lengths (m k : BitVec 64) : AgentMove e { e with msgLen := m, keyLen := k }
  | deliver (b : Byte) : AgentMove e (e.acceptByte b)
  | fail (k : ErrorKind) : AgentMove e (e.enterError k)
  | command (isHmac text : Bool) (name : BitVec 3) (w64 : Bool) (h : e.busy = false) :
      AgentMove e (e.cleared.startCommand isHmac text name w64)
  | keyCopy (h : e.keyCopyEnabled = true) : AgentMove e e.keyCopy
  | buildPads (h : e.buildPadsEnabled = true) : AgentMove e e.buildPads
  | runInit (h : e.runInitEnabled = true) : AgentMove e e.runInit
  | nextBlock (h : e.nextEnabled = true) : AgentMove e e.nextBlock
  | compressBlock (h : e.blockEnabled = true) : AgentMove e e.compressBlock
  | runEnd (h : e.runEndEnabled = true) : AgentMove e e.runEnd
  | reset : AgentMove e Engine.reset

/-- A step that moves the engine as an agent's does and leaves the queue alone. -/
def State.Moves (s t : State) : Prop := AgentMove s.eng t.eng ∧ t.sched = s.sched

theorem State.moves_refl (s : State) : s.Moves s := ⟨.stay, rfl⟩

theorem State.moves_of_act {s t : State} {e : Engine} (hm : AgentMove s.eng e) (h : s.act e = .next t) : s.Moves t := by
  obtain rfl : s.withEng e = t := by simpa using h
  exact ⟨hm, rfl⟩

theorem State.moves_of_answer {s t : State} {o : Output} (h : s.answer o = .next t) : s.Moves t := by
  obtain rfl : s.returning o = t := by simpa using h
  exact s.moves_refl

theorem State.moves_of_actIf {s t : State} {b : Bool} {e : Engine} (hm : b = true → AgentMove s.eng e)
    (h : s.actIf b e = .next t) : s.Moves t := by
  obtain ⟨hb, rfl⟩ | ⟨-, rfl⟩ := State.actIf_next h
  · exact ⟨hm hb, rfl⟩
  · exact State.moves_refl _

/-- A command word is a command or raises `BadCommand` (R256). -/
theorem AgentMove.of_acceptWord {e : Engine} (v : BitVec 32) (h : e.busy = false) : AgentMove e (e.acceptWord v) := by
  unfold Engine.acceptWord
  split
  · exact .fail .badCommand
  · exact .command _ _ _ _ h

/-- All that an agent's operation can do. -/
theorem moves_of_exec_agentStep {i : Instr} {s t : State} (hi : i.isAgentStep = true) (h : exec i s = .next t) :
    s.Moves t := by
  cases i with
  | digest text name w64 => exact State.moves_of_actIf (fun hb => .command _ _ _ _ (by simpa using hb)) h
  | hmac text name w64 => exact State.moves_of_actIf (fun hb => .command _ _ _ _ (by simpa using hb)) h
  | wrCmd v => exact State.moves_of_actIf (fun hb => .of_acceptWord v (by simpa using hb)) h
  | rdStatus | rdErr | rdWant | rdMsglenLo | rdMsglenHi | rdKeylenLo | rdKeylenHi | rdRlen | rdDlen | rdOlen =>
    exact State.moves_of_answer h
  | rdObuf k => exact State.moves_of_answer h
  | wrMsglenLo v => exact State.moves_of_act (.lengths (setLow s.eng.msgLen v) s.eng.keyLen) h
  | wrMsglenHi v => exact State.moves_of_act (.lengths (setHigh s.eng.msgLen v) s.eng.keyLen) h
  | wrKeylenLo v => exact State.moves_of_act (.lengths s.eng.msgLen (setLow s.eng.keyLen v)) h
  | wrKeylenHi v => exact State.moves_of_act (.lengths s.eng.msgLen (setHigh s.eng.keyLen v)) h
  | wrDin v => exact State.moves_of_act (.deliver (dinByte v)) h
  | wrDinctl v =>
    obtain ⟨k, -, rfl⟩ | ⟨-, rfl⟩ := dinctl_next h
    · exact ⟨.fail k, rfl⟩
    · exact State.moves_refl _
  | busNull a =>
    cases a with
    | read off => exact State.moves_of_answer h
    | write off v => exact State.moves_of_act .stay h
  | hmKeycopy => exact State.moves_of_actIf .keyCopy h
  | hmBuildpads => exact State.moves_of_actIf .buildPads h
  | drInit => exact State.moves_of_actIf .runInit h
  | baNext => exact State.moves_of_actIf .nextBlock h
  | ceBlock => exact State.moves_of_actIf .compressBlock h
  | drEnd => exact State.moves_of_actIf .runEnd h
  | reset => exact State.moves_of_act .reset h
  | _ => exact absurd hi Bool.false_ne_true

/-- The sequencer takes agents' steps only (R262). -/
theorem Engine.candidate_isAgentStep {e : Engine} {i : Instr} (h : e.candidate = some i) : i.isAgentStep = true := by
  unfold Engine.candidate at h
  split at h <;> cases h <;> rfl

/-- All that a step can do when only agents' steps are to come. -/
theorem move_of_step {s t : State} (hs : ∀ p ∈ s.sched, p.isAgentStep = true) (h : step s = .next t) :
    AgentMove s.eng t.eng ∧ ∀ p ∈ t.sched, p ∈ s.sched := by
  have queue {rest : List Packet} (hq : rest ⊆ s.sched) (hm : State.Moves { s with sched := rest } t) :
      AgentMove s.eng t.eng ∧ ∀ p ∈ t.sched, p ∈ s.sched := ⟨hm.1, hm.2 ▸ hq⟩
  obtain ⟨p, rest, i, bs, hp, hd, hx⟩ | ⟨p, rest, v, hp, -, hx⟩ | ⟨i, -, hi, hx⟩ | ⟨-, -, rfl⟩ := step_cases h
  · have hi : i.isAgentStep = true := by simpa [Packet.isAgentStep, hd] using hs p (by simp [hp])
    exact queue (by simp [hp]) (moves_of_exec_agentStep hi hx)
  · exact queue (by simp [hp]) (moves_of_exec_agentStep (i := .wrCmd v) rfl hx)
  · exact queue (List.Subset.refl _) (moves_of_exec_agentStep (Engine.candidate_isAgentStep hi) hx)
  · exact ⟨.stay, fun _ hp => hp⟩

/-! ## The invariant of a busy engine, in three parts -/

/-- The words of the compression function fit the width, and `T` its range (R21 to R24). -/
structure Engine.WordsFit (e : Engine) : Prop where
  roundIndex : e.t.toNat ≤ e.rounds
  state : ∀ i : Fin 8, Fits e.width e.h[i]
  vars : e.vars.Fits e.width
  schedule : ∀ i : Fin 80, Fits e.width e.w[i]

/-- Nothing has been reported yet: no error and no result (R45 (e), (f)). -/
structure Engine.Unreported (e : Engine) : Prop where
  noError : e.err = none
  output : e.OutputZero

/-- The part of a busy engine's invariant about its source, its counters and its phase. -/
structure Engine.Flow (e : Engine) : Prop where
  received : e.src = .key ∨ e.src = .msg → e.rcvd.toNat ≤ e.srcLen.toNat
  window : e.ra.length ≤ Config.raBytes
  consumedBound : e.consumed.toNat ≤ e.total.toNat + e.blockSize + e.lenField
  pair : legalPair e.stage e.phase = true
  source : e.SourceSelected
  run : e.stage.isRun = true → e.RunInv

theorem Engine.busy_iff (e : Engine) : e.busy = true ↔ e.stage ≠ .idle ∧ e.stage ≠ .done ∧ e.stage ≠ .error := by
  unfold Engine.busy
  cases e.stage <;> decide

theorem Engine.inv_of_busy {e : Engine} (hb : e.busy = true) (hu : e.Unreported) (hw : e.WordsFit) (hf : e.Flow) :
    e.Inv := by
  obtain ⟨hidle, hdone, herror⟩ := e.busy_iff.1 hb
  exact {
    idleZero := fun h => absurd h hidle
    errorState := fun h => absurd h herror
    received := fun _ => hf.received
    window := hf.window
    consumedBound := hf.consumedBound
    outputZero := fun _ => hu.output
    errorCode := by simp [hu.noError, herror]
    pair := hf.pair
    source := hf.source
    roundIndex := hw.roundIndex
    stateFits := hw.state
    varsFit := hw.vars
    scheduleFits := hw.schedule
    run := hf.run }

theorem Engine.Inv.wordsFit {e : Engine} (h : e.Inv) : e.WordsFit :=
  ⟨h.roundIndex, h.stateFits, h.varsFit, h.scheduleFits⟩

theorem Engine.Inv.unreported {e : Engine} (h : e.Inv) (hb : e.busy = true) : e.Unreported := by
  obtain ⟨-, hdone, herror⟩ := e.busy_iff.1 hb
  exact ⟨not_not.1 fun he => herror (h.errorCode.1 he), h.outputZero hdone⟩

theorem Engine.Inv.flow {e : Engine} (h : e.Inv) (hb : e.busy = true) : e.Flow :=
  ⟨h.received hb, h.window, h.consumedBound, h.pair, h.source, h.run⟩

/-- The registers `WordsFit` speaks of. -/
def Engine.words (e : Engine) : BitVec 7 × Vector Word 8 × Vars × Vector Word 80 × Variant :=
  (e.t, e.h, e.vars, e.w, e.name)

theorem Engine.WordsFit.of_words_eq {e e' : Engine} (h : e.WordsFit) (he : e'.words = e.words) : e'.WordsFit := by
  simp only [words, Prod.mk.injEq] at he
  obtain ⟨ht, hh, hv, hw, hn⟩ := he
  constructor <;> simp only [Engine.rounds, Engine.width, ht, hh, hv, hw, hn]
  exacts [h.roundIndex, h.state, h.vars, h.schedule]

/-- The registers `Unreported` speaks of. -/
def Engine.report (e : Engine) : Option ErrorKind × Vector Byte 256 × BitVec 4 × BitVec 7 × BitVec 8 :=
  (e.err, e.obuf, e.rlen, e.dlen, e.olen)

theorem Engine.Unreported.of_report_eq {e e' : Engine} (h : e.Unreported) (he : e'.report = e.report) : e'.Unreported := by
  simp only [report, Prod.mk.injEq] at he
  obtain ⟨herr, hobuf, hrlen, hdlen, holen⟩ := he
  exact ⟨herr.trans h.noError, by simpa only [OutputZero, hobuf, hrlen, hdlen, holen] using h.output⟩

/-! ## Engines whose words are zero: after reset, error entry and an accepted command -/

theorem Engine.WordsFit.of_zero {e : Engine} (ht : e.t = 0) (hh : e.h = Vector.replicate 8 0) (hv : e.vars = Vars.zero)
    (hw : e.w = Vector.replicate 80 0) : e.WordsFit where
  roundIndex := by simp [ht]
  state i _ := by simp [hh]
  vars := by simp [hv, Vars.Fits, Machine.Fits, Vars.zero]
  schedule i _ := by simp [hw]

theorem Engine.sourceSelected_of_not_busy {e : Engine} (h : e.busy = false) : e.SourceSelected := by
  cases hs : e.stage with
  | idle | done | error => simp only [SourceSelected, hs]
  | derivekey | buildpads | inner | outer | plain => simp [busy, hs] at h

/-- What the invariant says of an engine at rest. -/
theorem Engine.inv_of_not_busy {e : Engine} (hb : e.busy = false) (hw : e.WordsFit)
    (hidle : e.stage = .idle → e = e.cleared) (herror : e.stage = .error → ∃ k, e = e.enterError k)
    (hout : e.stage ≠ .done → e.OutputZero) (hcode : e.err ≠ none ↔ e.stage = .error)
    (hpair : legalPair e.stage e.phase = true) (hra : e.ra.length ≤ Config.raBytes)
    (hcons : e.consumed.toNat ≤ e.total.toNat + e.blockSize + e.lenField) : e.Inv where
  idleZero := hidle
  errorState := herror
  received h := absurd h (by simp [hb])
  window := hra
  consumedBound := hcons
  outputZero := hout
  errorCode := hcode
  pair := hpair
  source := sourceSelected_of_not_busy hb
  roundIndex := hw.roundIndex
  stateFits := hw.state
  varsFit := hw.vars
  scheduleFits := hw.schedule
  run h := absurd (Engine.isRun_ne h).1 (by simp [hb])

theorem Engine.cleared_inv (e : Engine) : e.cleared.Inv :=
  inv_of_not_busy rfl (.of_zero rfl rfl rfl rfl) (fun _ => rfl) nofun (fun _ => ⟨rfl, rfl, rfl, rfl⟩) (by simp) rfl
    (Nat.zero_le _) (Nat.zero_le _)

theorem Engine.enterError_inv (e : Engine) (k : ErrorKind) : (e.enterError k).Inv :=
  inv_of_not_busy rfl (.of_zero rfl rfl rfl rfl) nofun (fun _ => ⟨k, rfl⟩) (fun _ => ⟨rfl, rfl, rfl, rfl⟩) (by simp) rfl
    (Nat.zero_le _) (Nat.zero_le _)

theorem Engine.reset_inv : Engine.reset.Inv := Engine.reset.cleared_inv

/-! ## What a digest run keeps, by its source and phase -/

theorem Engine.runInv_init {e : Engine} (h : e.phase = .init) :
    e.RunInv ↔ (e.injv = true ↔ e.stage = .inner ∨ e.stage = .outer) ∧ (e.stage = .outer → e.ipos = 0) ∧
      (e.stage ≠ .outer → e.rcvd.toNat = e.ra.length) := by
  simp only [RunInv, h]

theorem Engine.runInv_assemble {e : Engine} (h : e.phase = .assemble) :
    e.RunInv ↔ e.Accounted ∧ (e.injv = true → e.stage = .inner ∨ e.stage = .outer) := by
  simp only [RunInv, h]

theorem Engine.runInv_compress {e : Engine} (h : e.phase = .compress) :
    e.RunInv ↔ e.injv = false ∧ (e.term = false → e.Accounted) ∧ (e.term = true → e.SourceDrained) := by
  simp only [RunInv, h]

theorem Engine.runInv_format {e : Engine} (h : e.phase = .format) :
    e.RunInv ↔ e.injv = false ∧ e.term = true ∧ e.SourceDrained := by
  simp only [RunInv, h]

theorem Engine.runInv_keycopy {e : Engine} (h : e.phase = .keycopy) :
    e.RunInv ↔ e.injv = false ∧ e.klen.toNat ≤ e.blockSize ∧ e.rcvd.toNat = e.ra.length := by
  simp only [RunInv, h]

/-- The bounds on the counters that hold of every source. -/
structure Engine.CountersBounded (e : Engine) : Prop where
  consumed : e.consumed.toNat ≤ e.total.toNat + e.lenField
  injected : e.injv = true → e.consumed = 0 ∧ e.total.toNat = e.srcLen.toNat
  total : e.total.toNat ≤ e.srcLen.toNat + e.blockSize

/-- The bytes of an external source: those received are those taken and those in the window. -/
def Engine.Balanced (e : Engine) : Prop := e.rcvd.toNat + e.remaining.toNat = e.srcLen.toNat + e.ra.length

/-- The source is the host's key or message stream. -/
def Engine.External (e : Engine) : Prop := e.src = .key ∨ e.src = .msg

theorem Engine.Accounted.countersBounded {e : Engine} (h : e.Accounted) : e.CountersBounded := by
  obtain ⟨hle, hinj, htotal, -⟩ := h
  exact ⟨hle, hinj, htotal⟩

theorem Engine.accounted_external {e : Engine} (hs : e.External) : e.Accounted ↔ e.CountersBounded ∧ e.Balanced := by
  refine ⟨fun h => ⟨h.countersBounded, ?_⟩, fun ⟨hc, hbal⟩ => ⟨hc.consumed, hc.injected, hc.total, ?_⟩⟩
  · obtain ⟨-, -, -, hbal⟩ := h
    obtain hsrc | hsrc := hs <;> simpa only [Balanced, hsrc] using hbal
  · obtain hsrc | hsrc := hs <;> simpa only [Balanced, hsrc] using hbal

theorem Engine.accounted_innerd {e : Engine} (hs : e.src = .innerd) :
    e.Accounted ↔ e.CountersBounded ∧ e.ipos = 0 ∧
      (e.injv = true ∨ e.consumed.toNat = e.blockSize ∧ e.total.toNat = e.srcLen.toNat + e.blockSize) := by
  refine ⟨fun h => ⟨h.countersBounded, ?_⟩, fun ⟨hc, hrun⟩ => ⟨hc.consumed, hc.injected, hc.total, ?_⟩⟩
  · obtain ⟨-, -, -, hrun⟩ := h
    simpa only [hs] using hrun
  · simpa only [hs] using hrun

theorem Engine.drained_external {e : Engine} (hs : e.External) : e.SourceDrained ↔ e.rcvd = e.srcLen ∧ e.ra = [] := by
  obtain h | h := hs <;> simp only [SourceDrained, h]

theorem Engine.drained_innerd {e : Engine} (hs : e.src = .innerd) : e.SourceDrained ↔ e.ipos.toNat = e.srcLen.toNat := by
  simp only [SourceDrained, hs]

/-- A digest run reads the host's stream or, in the outer run, the inner digest (R236, R239, R241, R257). -/
theorem Engine.SourceSelected.of_isRun {e : Engine} (h : e.SourceSelected) (hr : e.stage.isRun = true) :
    e.stage ≠ .outer ∧ e.External ∨ e.stage = .outer ∧ e.src = .innerd ∧ e.srcLen.toNat = e.digestLength := by
  unfold SourceSelected at h
  cases hs : e.stage <;> simp only [hs] at h
  case derivekey => exact .inl ⟨nofun, .inl h.1⟩
  case inner => exact .inl ⟨nofun, .inr h.1⟩
  case plain => exact .inl ⟨nofun, .inr h.1⟩
  case outer =>
    have hd := (digestBytes_le e.name).1
    refine .inr ⟨rfl, h.1, ?_⟩
    rw [h.2, BitVec.toNat_ofNat, Nat.mod_eq_of_lt]
    unfold digestLength
    omega
  all_goals simp [hs, Stage.isRun] at hr

/-- Bytes are wanted in the stages that read the host's stream (R42). -/
theorem Engine.Flow.external_of_req {e : Engine} (h : e.Flow) (hr : e.req ≠ 0) : e.External := by
  have hrun : e.stage.isRun = true ∧ e.stage ≠ .outer := by
    obtain ⟨hs, -⟩ | ⟨hs | hs, -⟩ := Engine.req_cases hr <;> simp [hs, Stage.isRun]
  obtain ⟨-, hx⟩ | ⟨ho, -⟩ := h.source.of_isRun hrun.1
  · exact hx
  · exact absurd ho hrun.2

/-! ## A byte delivered (R73) -/

section Deliver

variable {e : Engine} (b : Byte)

theorem Engine.acceptByte_of_not_want (h : ¬0 < e.want) : e.acceptByte b = e := by simp only [acceptByte, if_neg h]

theorem Engine.acceptByte_ra_length (h : 0 < e.want) : (e.acceptByte b).ra.length = e.ra.length + 1 := by
  simp [acceptByte, h]

theorem Engine.acceptByte_rcvd_toNat (h : 0 < e.want) : (e.acceptByte b).rcvd.toNat = e.rcvd.toNat + 1 := by
  have hlt : e.rcvd.toNat < e.srcLen.toNat := (want_pos.1 h).2.2
  have hsrc := e.srcLen.isLt
  simp only [acceptByte, if_pos h]
  bv_omega

theorem Engine.acceptByte_accounted (h : 0 < e.want) (hx : e.External) (ha : e.Accounted) : (e.acceptByte b).Accounted := by
  have hx' : (e.acceptByte b).External := by simpa [External] using hx
  obtain ⟨hc, hbal⟩ := (accounted_external hx).1 ha
  refine (accounted_external hx').2 ⟨⟨by simpa using hc.consumed, by simpa using hc.injected, by simpa using hc.total⟩, ?_⟩
  have hrem : (e.acceptByte b).remaining = e.remaining := by simp [remaining]
  simp only [Balanced, acceptByte_ra_length b h, acceptByte_rcvd_toNat b h, hrem, acceptByte_srcLen] at hbal ⊢
  omega

/-- A drained source wants no byte. -/
theorem Engine.not_drained_of_want (h : 0 < e.want) (hx : e.External) : ¬e.SourceDrained := by
  rw [drained_external hx]
  rintro ⟨heq, -⟩
  exact absurd (want_pos.1 h).2.2 (by simp [heq])

theorem Engine.acceptByte_runInv (h : 0 < e.want) (hx : e.External) (hr : e.RunInv) : (e.acceptByte b).RunInv := by
  have hra := acceptByte_ra_length b h
  have hrcvd := acceptByte_rcvd_toNat b h
  have hph := acceptByte_phase e b
  cases hp : e.phase with
  | init =>
    obtain ⟨hinj, hipos, hcount⟩ := (runInv_init hp).1 hr
    exact (runInv_init (hph.trans hp)).2 ⟨by simpa using hinj, by simpa using hipos,
      fun ho => by rw [hra, hrcvd, hcount (by simpa using ho)]⟩
  | assemble =>
    obtain ⟨hacc, hinj⟩ := (runInv_assemble hp).1 hr
    exact (runInv_assemble (hph.trans hp)).2 ⟨acceptByte_accounted b h hx hacc, by simpa using hinj⟩
  | compress =>
    obtain ⟨hinj, hacc, hdr⟩ := (runInv_compress hp).1 hr
    exact (runInv_compress (hph.trans hp)).2 ⟨by simpa using hinj,
      fun ht => acceptByte_accounted b h hx (hacc (by simpa using ht)),
      fun ht => absurd (hdr (by simpa using ht)) (not_drained_of_want h hx)⟩
  | format => exact absurd ((runInv_format hp).1 hr).2.2 (not_drained_of_want h hx)
  | keycopy =>
    obtain ⟨hinj, hk, hcount⟩ := (runInv_keycopy hp).1 hr
    exact (runInv_keycopy (hph.trans hp)).2 ⟨by simpa using hinj, by simpa using hk, by rw [hra, hrcvd, hcount]⟩

theorem Engine.Flow.acceptByte (h : 0 < e.want) (hx : e.External) (hf : e.Flow) : (e.acceptByte b).Flow := by
  obtain ⟨-, hroom, hlt⟩ := want_pos.1 h
  exact {
    received := fun _ => by rw [acceptByte_rcvd_toNat b h, acceptByte_srcLen]; exact hlt
    window := by rw [acceptByte_ra_length b h]; exact hroom
    consumedBound := by simpa using hf.consumedBound
    pair := by simpa using hf.pair
    source := by simpa [SourceSelected] using hf.source
    run := fun hr => acceptByte_runInv b h hx (hf.run (by simpa using hr)) }

theorem Engine.Inv.acceptByte (he : e.Inv) : (e.acceptByte b).Inv := by
  by_cases h : 0 < e.want
  · have hb : e.busy = true := by
      obtain ⟨hs, -⟩ | ⟨hs | hs, -⟩ := req_cases (want_pos.1 h).1 <;> simp [busy, hs]
    have hf := he.flow hb
    exact inv_of_busy (by simpa [busy] using hb) ((he.unreported hb).of_report_eq (by simp [report]))
      (he.wordsFit.of_words_eq (by simp [words])) (hf.acceptByte b h (hf.external_of_req (want_pos.1 h).1))
  · rwa [acceptByte_of_not_want b h]

end Deliver

/-! ## Commands (R256 to R258) and register writes (R264) -/

theorem Engine.Inv.setLengths {e : Engine} (he : e.Inv) (m k : BitVec 64) : { e with msgLen := m, keyLen := k }.Inv := by
  refine { he with
    idleZero := fun hs => congrArg (fun c => { c with msgLen := m, keyLen := k }) (he.idleZero hs)
    errorState := fun hs => ?_ }
  obtain ⟨kind, hkind⟩ := he.errorState hs
  exact ⟨kind, congrArg (fun c => { c with msgLen := m, keyLen := k }) hkind⟩

theorem Engine.startDigest_inv (e : Engine) (text : Bool) (v : Variant) (w64 : Bool) :
    (e.cleared.latch false text v w64).startDigest.Inv :=
  inv_of_busy (by simp [busy]) ⟨by simp, by simp [OutputZero]⟩ (.of_zero (by simp) (by simp) (by simp) (by simp))
    { received := by simp
      window := by simp
      consumedBound := by simp
      pair := by simp [legalPair]
      source := by simp [SourceSelected]
      run := fun _ => (runInv_init (by simp)).2 (by simp) }

theorem Engine.startHmac_inv (e : Engine) (text : Bool) (v : Variant) (w64 : Bool) :
    (e.cleared.latch true text v w64).startHmac.Inv := by
  unfold startHmac
  refine inv_of_busy (by simp [busy]) ⟨by simp, by simp [OutputZero]⟩ (.of_zero (by simp) (by simp) (by simp) (by simp))
    { received := by simp
      window := by simp
      consumedBound := by simp
      pair := by simp [legalPair]
      source := by simp [SourceSelected]
      run := fun _ => ?_ }
  by_cases hk : (e.cleared.latch true text v w64).blockSize < e.keyLen.toNat
  · exact (runInv_init (by simp [hk])).2 (by simp)
  · exact (runInv_keycopy (by simp [hk])).2 ⟨by simp, by simpa using hk, by simp⟩

theorem Engine.startCommand_inv (e : Engine) (isHmac text : Bool) (name : BitVec 3) (w64 : Bool) :
    (e.cleared.startCommand isHmac text name w64).Inv := by
  unfold startCommand
  split
  · exact enterError_inv _ _
  · cases isHmac
    · exact startDigest_inv e text _ w64
    · exact startHmac_inv e text _ w64

/-! ## The steps of the HMAC composition (R237, R239) -/

theorem Engine.srcTaken_ra_length_le (e : Engine) (n : Nat) : (e.srcTaken n).ra.length ≤ e.ra.length := by
  rw [srcTaken_ra]
  split
  · simp
  · exact le_rfl

theorem Engine.Inv.keyCopy {e : Engine} (he : e.Inv) (h : e.keyCopyEnabled = true) : e.keyCopy.Inv := by
  obtain ⟨hs, -, -⟩ : e.stage = .derivekey ∧ e.phase = .keycopy ∧ e.klen.toNat ≤ e.srcAvail := by
    simpa [keyCopyEnabled, and_assoc] using h
  have hb : e.busy = true := by simp [busy, hs]
  have hf := he.flow hb
  exact inv_of_busy (by simp [busy]) ((he.unreported hb).of_report_eq (by simp [report]))
    (he.wordsFit.of_words_eq (by simp [words]))
    { received := by simpa using hf.received
      window := by simpa using (e.srcTaken_ra_length_le _).trans hf.window
      consumedBound := by simpa using hf.consumedBound
      pair := by simp [legalPair]
      source := by simpa [SourceSelected, hs] using hf.source
      run := by simp [Stage.isRun] }

theorem Engine.Inv.buildPads {e : Engine} (he : e.Inv) (h : e.buildPadsEnabled = true) : e.buildPads.Inv := by
  obtain ⟨hs, -⟩ : e.stage = .buildpads ∧ e.phase = .init := by simpa [buildPadsEnabled] using h
  have hb : e.busy = true := by simp [busy, hs]
  exact inv_of_busy (by simp [busy]) ((he.unreported hb).of_report_eq (by simp [report]))
    (he.wordsFit.of_words_eq (by simp [words]))
    { received := by simp
      window := by simp
      consumedBound := by simpa using (he.flow hb).consumedBound
      pair := by simp [legalPair]
      source := by simp [SourceSelected]
      run := fun _ => (runInv_init (by simp)).2 (by simp) }

/-! ## `DR.INIT` (R259) -/

theorem Engine.atPhase_iff {e : Engine} {p : Phase} : e.atPhase p = true ↔ e.stage.isRun = true ∧ e.phase = p := by
  simp [atPhase]

theorem legalPair_of_isRun {st : Stage} {p : Phase} (h : st.isRun = true) (hp : p ≠ .keycopy) : legalPair st p = true := by
  cases st with
  | derivekey => rfl
  | inner | outer | plain =>
    cases p with
    | keycopy => exact absurd rfl hp
    | init | assemble | compress | format => rfl
  | idle | buildpads | done | error => cases h

theorem Engine.runInit_accounted {e : Engine} (hr : e.stage.isRun = true) (hf : e.Flow) (hp : e.phase = .init) :
    e.runInit.Accounted := by
  obtain ⟨hinj, hipos, hcount⟩ := (runInv_init hp).1 (hf.run hr)
  have htotal : e.runInit.total.toNat = e.srcLen.toNat := by
    have := e.srcLen.isLt
    rw [runInit_total, BitVec.toNat_setWidth]
    omega
  have hc : e.runInit.CountersBounded := ⟨by simp, by simp [htotal, -runInit_total], by simp [htotal, -runInit_total]⟩
  obtain ⟨ho, hx⟩ | ⟨ho, hi, -⟩ := hf.source.of_isRun hr
  · refine (accounted_external (by simpa [External] using hx)).2 ⟨hc, ?_⟩
    have hrem : e.runInit.remaining = e.srcLen.toNat := by simp [remaining, htotal, -runInit_total]
    rw [Balanced, hrem, runInit_rcvd, runInit_srcLen, runInit_ra, hcount ho]
    omega
  · exact (accounted_innerd (by simpa using hi)).2 ⟨hc, by simpa using hipos ho, .inl (by simpa using hinj.2 (.inr ho))⟩

theorem Engine.Inv.runInit {e : Engine} (he : e.Inv) (h : e.runInitEnabled = true) : e.runInit.Inv := by
  obtain ⟨hr, hp⟩ := atPhase_iff.1 h
  have hb := (isRun_ne hr).1
  have hf := he.flow hb
  have hinj := ((runInv_init hp).1 (hf.run hr)).1
  refine inv_of_busy (by simpa [busy] using hb) ((he.unreported hb).of_report_eq (by simp [report]))
    ⟨by simpa using he.roundIndex, ?_, by simpa using he.varsFit, by simpa using he.scheduleFits⟩
    { received := by simpa using hf.received
      window := by simpa using hf.window
      consumedBound := by simp
      pair := by simpa using legalPair_of_isRun (p := .assemble) hr nofun
      source := by simpa [SourceSelected] using hf.source
      run := fun _ => (runInv_assemble (by simp)).2 ⟨runInit_accounted hr hf hp, by simpa using hinj.1⟩ }
  simpa [width] using fits_iv e.name

/-! ## `BA.NEXT` (R171 to R184) -/

section Blocks

variable {e : Engine}

theorem Engine.blockStep_consumed_toNat (op : BlockOp) (h : e.consumed.toNat ≤ e.total.toNat + e.lenField) :
    (e.blockStep op).consumed.toNat = e.consumed.toNat + e.blockSize := by
  obtain ⟨-, hB, hlf⟩ := e.blockSize_bounds
  have ht := e.total.isLt
  rw [blockStep_consumed, BitVec.toNat_add, BitVec.toNat_ofNat]
  omega

theorem Engine.blockStep_total_toNat (op : BlockOp) (h : op = .inject → e.total.toNat = e.srcLen.toNat) :
    (e.blockStep op).total.toNat = e.total.toNat + if op = .inject then e.blockSize else 0 := by
  obtain ⟨-, hB, -⟩ := e.blockSize_bounds
  have hs := e.srcLen.isLt
  rw [blockStep_total]
  split
  · next hop =>
    have ht := h hop
    rw [BitVec.toNat_add, BitVec.toNat_ofNat]
    omega
  · rfl

theorem Engine.remaining_lt_blockSize (hi : e.selectBlockOp ≠ .inject) (hf : e.selectBlockOp ≠ .full) :
    e.remaining < e.blockSize := by
  rw [Ne, select_inject, Bool.not_eq_true] at hi
  rw [Ne, select_full] at hf
  exact not_le.1 fun h => hf ⟨hi, h⟩

/-- The selected operation takes no more than `need` (R171). -/
theorem Engine.taken_le_need (e : Engine) : e.taken e.selectBlockOp ≤ e.need := by
  unfold need
  cases hop : e.selectBlockOp with
  | inject | lenOnly => exact Nat.zero_le _
  | full =>
    have hB := (select_full.1 hop).2
    rw [taken]
    omega
  | final | padOnly =>
    have hlt := remaining_lt_blockSize (e := e) (by simp [hop]) (by simp [hop])
    rw [taken, tailBytes]
    omega

/-- The bytes the selected operation takes are there (R171, R174). -/
theorem Engine.taken_le_srcAvail (h : (e.injv || e.sourceReady) = true) : e.taken e.selectBlockOp ≤ e.srcAvail := by
  obtain hinj | hneed : e.injv = true ∨ e.need ≤ e.srcAvail := by simpa [sourceReady] using h
  · rw [select_inject.2 hinj]
    exact Nat.zero_le _
  · exact e.taken_le_need.trans hneed

/-- The block `BA.NEXT` emits leaves no injected block. -/
theorem Engine.nextBlock_injv_eq_false (e : Engine) : e.nextBlock.injv = false := by
  rw [nextBlock_injv, blockStep_injv]
  cases hinj : e.injv
  · rfl
  · simp [select_inject.2 hinj]

theorem Engine.nextBlock_consumed_toNat (hc : e.CountersBounded) :
    e.nextBlock.consumed.toNat = e.consumed.toNat + e.blockSize := by
  rw [nextBlock_consumed, blockStep_consumed_toNat _ hc.consumed]

theorem Engine.nextBlock_total_toNat (hc : e.CountersBounded) :
    e.nextBlock.total.toNat = e.total.toNat + if e.selectBlockOp = .inject then e.blockSize else 0 := by
  rw [nextBlock_total, blockStep_total_toNat _ fun hop => (hc.injected (select_inject.1 hop)).2]

theorem Engine.nextBlock_remaining (hc : e.CountersBounded) :
    e.nextBlock.remaining = e.remaining - if e.selectBlockOp = .inject then 0 else (e.blockSize : Int) := by
  unfold remaining
  rw [nextBlock_consumed_toNat hc, nextBlock_total_toNat hc]
  split <;> push_cast <;> omega

/-- `remaining` counts the source's untaken bytes: a block lowers it by the bytes it takes, or takes it below 0. -/
theorem Engine.nextBlock_remaining_toNat (hc : e.CountersBounded) :
    e.nextBlock.remaining.toNat = e.remaining.toNat - e.taken e.selectBlockOp := by
  rw [nextBlock_remaining hc]
  cases hop : e.selectBlockOp with
  | inject => simp [taken]
  | full =>
    have hB := (select_full.1 hop).2
    rw [taken, if_neg nofun]
    omega
  | final | padOnly =>
    have hlt := remaining_lt_blockSize (e := e) (by simp [hop]) (by simp [hop])
    rw [taken, tailBytes, if_neg nofun]
    omega
  | lenOnly =>
    have hneg := (select_lenOnly.1 hop).2.2
    rw [taken, if_neg nofun]
    omega

/-- The terminal block is the one that carries the length field (R177, R180): it ends what remains. -/
theorem Engine.nextBlock_remaining_of_term (hc : e.CountersBounded) (ht : e.nextBlock.term = true) :
    e.nextBlock.remaining.toNat = 0 := by
  rw [nextBlock_remaining_toNat hc]
  obtain hop | hop : e.selectBlockOp = .final ∨ e.selectBlockOp = .lenOnly := by simpa [blockStep_term] using ht
  · simp [hop, taken, tailBytes]
  · have hneg := (select_lenOnly.1 hop).2.2
    rw [hop, taken]
    omega

/-- A block that is not terminal ends at most the length field's bytes past the data (R171, R179). -/
theorem Engine.nextBlock_remaining_of_not_term (hc : e.CountersBounded) (ht : e.nextBlock.term = false) :
    -(e.lenField : Int) ≤ e.nextBlock.remaining := by
  have hterm : e.selectBlockOp ≠ .final ∧ e.selectBlockOp ≠ .lenOnly := by simpa [blockStep_term] using ht
  rw [nextBlock_remaining hc]
  cases hop : e.selectBlockOp with
  | inject =>
    have hle := hc.consumed
    simp only [if_true, remaining]
    omega
  | full =>
    have hB := (select_full.1 hop).2
    rw [if_neg nofun]
    omega
  | padOnly =>
    have hB := (select_padOnly.1 hop).2.2.2
    rw [if_neg nofun]
    omega
  | final => exact absurd hop hterm.1
  | lenOnly => exact absurd hop hterm.2

theorem Engine.nextBlock_countersBounded (hc : e.CountersBounded) (ht : e.nextBlock.term = false) :
    e.nextBlock.CountersBounded := by
  have hrem := nextBlock_remaining_of_not_term hc ht
  have htotal := nextBlock_total_toNat hc
  unfold remaining at hrem
  refine ⟨?_, fun h => (nomatch e.nextBlock_injv_eq_false.symm.trans h), ?_⟩
  · rw [nextBlock_lenField]
    omega
  · rw [nextBlock_srcLen, nextBlock_blockSize, htotal]
    split
    · next hop => rw [(hc.injected (select_inject.1 hop)).2]
    · exact hc.total

/-- An external source stays balanced: what a block takes leaves both the window and what remains. -/
theorem Engine.nextBlock_balanced (hx : e.External) (hc : e.CountersBounded) (hbal : e.Balanced)
    (hready : (e.injv || e.sourceReady) = true) : e.nextBlock.Balanced := by
  have havail : e.srcAvail = e.ra.length := by obtain h | h := hx <;> simp only [srcAvail, h]
  have htaken := taken_le_srcAvail hready
  have hle : e.taken e.selectBlockOp ≤ e.remaining.toNat := e.taken_le_need.trans (min_le_left _ _)
  have hra : e.nextBlock.ra = e.ra.drop (e.taken e.selectBlockOp) := by
    rw [nextBlock_ra, blockStep_ra, srcTaken_ra]
    exact if_pos hx
  unfold Balanced at hbal ⊢
  rw [nextBlock_rcvd, nextBlock_srcLen, nextBlock_remaining_toNat hc, hra, List.length_drop]
  omega

/-- What `BA.NEXT` leaves of the host's stream (R45 (d), R184). -/
theorem Engine.nextBlock_of_external (hx : e.External) (hrecv : e.rcvd.toNat ≤ e.srcLen.toNat)
    (hacc : e.Accounted) (hready : (e.injv || e.sourceReady) = true) :
    (e.nextBlock.term = false → e.nextBlock.Accounted) ∧ (e.nextBlock.term = true → e.nextBlock.SourceDrained) := by
  obtain ⟨hc, hbal⟩ := (accounted_external hx).1 hacc
  have hx' : e.nextBlock.External := by simpa [External] using hx
  have hbal' := nextBlock_balanced hx hc hbal hready
  refine ⟨fun ht => (accounted_external hx').2 ⟨nextBlock_countersBounded hc ht, hbal'⟩,
    fun ht => (drained_external hx').2 ?_⟩
  rw [Balanced, nextBlock_remaining_of_term hc ht, nextBlock_rcvd, nextBlock_srcLen] at hbal'
  rw [nextBlock_rcvd, nextBlock_srcLen, ← List.length_eq_zero_iff, BitVec.toNat_eq]
  omega

/-- Once the outer run's injected block is emitted, its next block is `BA.FINAL`, which takes the whole inner digest. -/
theorem Engine.select_final_of_innerd (hlen : e.srcLen.toNat = e.digestLength) (hinj : e.injv = false)
    (hrem : e.remaining = e.digestLength) : e.selectBlockOp = .final := by
  obtain ⟨-, hfit⟩ := digestBytes_le e.name
  have hfit : e.digestLength + 1 + e.lenField ≤ e.blockSize := hfit
  exact select_final.2 ⟨hinj, by omega, by omega, by omega⟩

/-- What `BA.NEXT` leaves of the inner digest as a source (R241). -/
theorem Engine.nextBlock_of_innerd (hi : e.src = .innerd) (hlen : e.srcLen.toNat = e.digestLength) (hacc : e.Accounted) :
    (e.nextBlock.term = false → e.nextBlock.Accounted) ∧ (e.nextBlock.term = true → e.nextBlock.SourceDrained) := by
  obtain ⟨hc, hipos, hrun⟩ := (accounted_innerd hi).1 hacc
  have hi' : e.nextBlock.src = .innerd := by simpa using hi
  cases hinj : e.injv with
  | true =>
    have hop := select_inject.2 hinj
    have hterm : e.nextBlock.term = false := by simp [blockStep_term, hop]
    refine ⟨fun ht => (accounted_innerd hi').2 ⟨nextBlock_countersBounded hc ht, ?_, .inr ?_⟩,
      fun ht => (nomatch hterm.symm.trans ht)⟩
    · simp [blockStep_ipos, srcTaken_ipos, hop, taken, hipos]
    · obtain ⟨hzero, htotal⟩ := hc.injected hinj
      rw [nextBlock_consumed_toNat hc, nextBlock_total_toNat hc, nextBlock_blockSize, nextBlock_srcLen, hop, hzero, htotal]
      simp
  | false =>
    obtain ⟨hcons, htotal⟩ := hrun.resolve_left (by simp [hinj])
    have hrem : e.remaining = e.digestLength := by rw [remaining, hcons, htotal, hlen]; omega
    have hop := select_final_of_innerd hlen hinj hrem
    have hterm : e.nextBlock.term = true := by simp [blockStep_term, hop]
    refine ⟨fun ht => (nomatch hterm.symm.trans ht), fun _ => (drained_innerd hi').2 ?_⟩
    have hd : e.digestLength ≤ 64 := (digestBytes_le e.name).1
    rw [nextBlock_ipos, blockStep_ipos, srcTaken_ipos, if_pos hi, hop, hipos, nextBlock_srcLen, hlen, taken, tailBytes, hrem,
      Int.toNat_natCast, zero_add, BitVec.toNat_ofNat]
    omega

theorem Engine.Inv.nextBlock (he : e.Inv) (h : e.nextEnabled = true) : e.nextBlock.Inv := by
  obtain ⟨hat, hready⟩ : e.atPhase .assemble = true ∧ (e.injv || e.sourceReady) = true := by
    simpa only [nextEnabled, Bool.and_eq_true] using h
  obtain ⟨hr, hp⟩ := atPhase_iff.1 hat
  have hb := (isRun_ne hr).1
  have hf := he.flow hb
  have hacc := ((runInv_assemble hp).1 (hf.run hr)).1
  have hafter : (e.nextBlock.term = false → e.nextBlock.Accounted) ∧
      (e.nextBlock.term = true → e.nextBlock.SourceDrained) := by
    obtain ⟨-, hx⟩ | ⟨-, hi, hlen⟩ := hf.source.of_isRun hr
    · exact nextBlock_of_external hx (hf.received hx) hacc hready
    · exact nextBlock_of_innerd hi hlen hacc
  have hc := hacc.countersBounded
  exact inv_of_busy (by simpa [busy] using hb) ((he.unreported hb).of_report_eq (by simp [report]))
    (he.wordsFit.of_words_eq (by simp [words]))
    { received := by simpa using hf.received
      window := by
        rw [nextBlock_ra, blockStep_ra]
        exact (e.srcTaken_ra_length_le _).trans hf.window
      consumedBound := by
        rw [nextBlock_consumed_toNat hc, nextBlock_total_toNat hc, nextBlock_blockSize, nextBlock_lenField]
        have hle := hc.consumed
        omega
      pair := by simpa using legalPair_of_isRun (p := .compress) hr nofun
      source := by simpa [SourceSelected] using hf.source
      run := fun _ => (runInv_compress (by simp)).2 ⟨e.nextBlock_injv_eq_false, hafter⟩ }

end Blocks

/-! ## `CE.BLOCK` (R206) -/

theorem Engine.compressBlock_wordsFit {e : Engine} (h : e.WordsFit) : e.compressBlock.WordsFit where
  roundIndex := by simp [compress_t]
  state := by simpa using compress_h_fits e
  vars := by simpa using compress_vars_fits e h.state
  schedule := by simpa using compress_w_fits e h.schedule

theorem Engine.compressBlock_runInv {e : Engine} (hp : e.phase = .compress) (h : e.RunInv) : e.compressBlock.RunInv := by
  obtain ⟨hinj, hacc, hdr⟩ := (runInv_compress hp).1 h
  cases ht : e.term with
  | true => exact (runInv_format (by simp [ht])).2 ⟨by simpa using hinj, by simpa using ht,
      by simpa [SourceDrained] using hdr ht⟩
  | false => exact (runInv_assemble (by simp [ht])).2 ⟨by simpa [Accounted, remaining] using hacc ht, by simp [hinj]⟩

theorem Engine.Inv.compressBlock {e : Engine} (he : e.Inv) (h : e.blockEnabled = true) : e.compressBlock.Inv := by
  obtain ⟨hr, hp⟩ := atPhase_iff.1 h
  have hb := (isRun_ne hr).1
  have hf := he.flow hb
  exact inv_of_busy (by simpa [busy] using hb) ((he.unreported hb).of_report_eq (by simp [report]))
    (compressBlock_wordsFit he.wordsFit)
    { received := by simpa using hf.received
      window := by simpa using hf.window
      consumedBound := by simpa using hf.consumedBound
      pair := by simpa using legalPair_of_isRun hr (by cases e.term <;> decide)
      source := by simpa [SourceSelected] using hf.source
      run := fun _ => compressBlock_runInv hp (hf.run hr) }

/-! ## `DR.END` (R261) -/

section RunEnd

variable {e : Engine}

theorem Engine.runEnd_of_derivekey (hs : e.stage = .derivekey) : e.runEnd = e.formatRaw.route.keyHash := by
  simp [runEnd, handOver, hs]

theorem Engine.runEnd_of_inner (hs : e.stage = .inner) : e.runEnd = e.formatRaw.route.startOuter := by
  simp [runEnd, handOver, hs]

theorem Engine.routeOutput_outputBytes (e : Engine) : e.routeOutput.outputBytes = e.outputBytes := by
  simp [outputBytes, textDigest, rawDigest]

/-- What `DF.ROUTE` has put out, `HM.DONE` puts out again (R226, R242). -/
theorem Engine.finishHmac_routeOutput (e : Engine) : e.routeOutput.finishHmac = e.finishHmac := by
  unfold finishHmac
  rw [routeOutput, routeOutput_outputBytes, routeOutput_digestLength, routeOutput_digestWordCount, routeOutput_text]
  simp only [routeOutput]

/-- The last run of a command, of `DIGEST` or of `HMAC`, ends as `HM.DONE` does. -/
theorem Engine.runEnd_of_last (hs : e.stage = .outer ∨ e.stage = .plain) : e.runEnd = e.formatRaw.finishHmac := by
  obtain h | h := hs
  · simp only [runEnd, route, handOver, formatRaw_stage, routeOutput_stage, h, finishHmac_routeOutput]
  · simp only [runEnd, route, handOver, formatRaw_stage, routeOutput_stage, h, finishHmac]

/-- `DF.RAW` and `DF.ROUTE` report no result in the stages before the last run (R221, R226). -/
theorem Engine.formatRaw_route_report (hs : e.stage = .derivekey ∨ e.stage = .inner) :
    e.formatRaw.route.report = e.report := by
  obtain h | h := hs <;> simp [route, h, report]

theorem Engine.keyHash_report (e : Engine) : e.keyHash.report = e.report := by simp [report]

theorem Engine.startOuter_report (e : Engine) : e.startOuter.report = e.report := by simp [report]

theorem Engine.Inv.runEnd_of_derivekey (he : e.Inv) (hs : e.stage = .derivekey) : e.runEnd.Inv := by
  have hb : e.busy = true := by simp [busy, hs]
  have hf := he.flow hb
  have hrep : e.runEnd.report = e.report := by
    rw [Engine.runEnd_of_derivekey hs, keyHash_report, formatRaw_route_report (.inl hs)]
  rw [Engine.runEnd_of_derivekey hs] at hrep ⊢
  exact inv_of_busy (by simp [busy]) ((he.unreported hb).of_report_eq hrep)
    (he.wordsFit.of_words_eq (by simp [words]))
    { received := by simpa using hf.received
      window := by simpa using hf.window
      consumedBound := by simpa using hf.consumedBound
      pair := by simp [legalPair]
      source := by simpa [SourceSelected, hs] using hf.source
      run := by simp [Stage.isRun] }

theorem Engine.Inv.runEnd_of_inner (he : e.Inv) (hs : e.stage = .inner) : e.runEnd.Inv := by
  have hb : e.busy = true := by simp [busy, hs]
  have hf := he.flow hb
  have hrep : e.runEnd.report = e.report := by
    rw [Engine.runEnd_of_inner hs, startOuter_report, formatRaw_route_report (.inr hs)]
  rw [Engine.runEnd_of_inner hs] at hrep ⊢
  exact inv_of_busy (by simp [busy]) ((he.unreported hb).of_report_eq hrep)
    (he.wordsFit.of_words_eq (by simp [words]))
    { received := by simp
      window := by simpa using hf.window
      consumedBound := by simpa using hf.consumedBound
      pair := by simp [legalPair]
      source := by simp [SourceSelected]
      run := fun _ => (runInv_init (by simp)).2 (by simp) }

/-- The last run of a command ends in `DONE`, the counters and the words as they were. -/
theorem Engine.Inv.runEnd_of_last (he : e.Inv) (hs : e.stage = .outer ∨ e.stage = .plain) (hp : e.phase = .format) :
    e.runEnd.Inv := by
  have hb : e.busy = true := by obtain h | h := hs <;> simp [busy, h]
  rw [Engine.runEnd_of_last hs]
  exact inv_of_not_busy (by simp [busy]) (he.wordsFit.of_words_eq (by simp [words])) (by simp) (by simp) (by simp)
    (by simp [(he.unreported hb).noError]) (by simp [hp, legalPair]) (by simpa using he.window)
    (by simpa using he.consumedBound)

theorem Engine.Inv.runEnd (he : e.Inv) (h : e.runEndEnabled = true) : e.runEnd.Inv := by
  obtain ⟨hr, hp⟩ := atPhase_iff.1 h
  cases hs : e.stage with
  | derivekey => exact he.runEnd_of_derivekey hs
  | inner => exact he.runEnd_of_inner hs
  | outer => exact he.runEnd_of_last (.inl hs) hp
  | plain => exact he.runEnd_of_last (.inr hs) hp
  | idle | buildpads | done | error => simp [hs, Stage.isRun] at hr

end RunEnd

/-! ## The obligations on the invariant -/

theorem AgentMove.inv {e e' : Engine} (he : e.Inv) (h : AgentMove e e') : e'.Inv := by
  cases h with
  | stay => exact he
  | lengths m k => exact he.setLengths m k
  | deliver b => exact he.acceptByte b
  | fail k => exact e.enterError_inv k
  | command isHmac text name w64 _ => exact e.startCommand_inv isHmac text name w64
  | keyCopy h => exact he.keyCopy h
  | buildPads h => exact he.buildPads h
  | runInit h => exact he.runInit h
  | nextBlock h => exact he.nextBlock h
  | compressBlock h => exact he.compressBlock h
  | runEnd h => exact he.runEnd h
  | reset => exact Engine.reset_inv

/-- Settles O54: a step is an agent's move of the engine, and every such move keeps the engine's invariant. -/
theorem invariantIsKept : Obligations.InvariantIsKept := by
  unfold Obligations.InvariantIsKept
  intro s t hs h
  obtain ⟨hm, hq⟩ := move_of_step hs.agents h
  exact ⟨hm.inv hs.engine, fun p hp => hs.agents p (hq p hp)⟩

/-- Settles O55: the reset engine is a cleared one, and no step is to come. -/
theorem invariantHoldsAtReset : Obligations.InvariantHoldsAtReset := by
  unfold Obligations.InvariantHoldsAtReset
  exact ⟨Engine.reset_inv, by simp⟩

end Sys2Proof.Machine
end

section
/-! PROOF. The byte stream: the source the block assembler takes from (R74), the window the host's `WR.DIN` fills (R73), and the
errors its `WR.DINCTL` raises (R75). -/

namespace Sys2Proof.Machine

/-! ## Taking from the source (R74) -/

theorem slice_getElem? {n : Nat} (buf : Vector Byte n) {i k j : Nat} (hj : j < k) : (slice buf i k)[j]? = buf[i + j]? := by
  simp [slice, hj, ← Vector.getElem?_toList]

section Source

variable {e : Engine}

theorem Engine.srcAvail_of_external (h : e.External) : e.srcAvail = e.ra.length := by
  obtain h | h := h <;> simp only [srcAvail, h]

theorem Engine.srcBytes_of_external (n : Nat) (h : e.External) : e.srcBytes n = e.ra.take n := by
  obtain h | h := h <;> simp only [srcBytes, h]

theorem Engine.srcTaken_of_external (n : Nat) (h : e.External) : e.srcTaken n = { e with ra := e.ra.drop n } := by
  obtain h | h := h <;> simp only [srcTaken, h]

theorem Engine.srcAvail_of_innerd (h : e.src = .innerd) : e.srcAvail = e.srcLen.toNat - e.ipos.toNat := by
  simp only [srcAvail, h]

theorem Engine.srcBytes_of_innerd (n : Nat) (h : e.src = .innerd) : e.srcBytes n = slice e.innerd e.ipos.toNat n := by
  simp only [srcBytes, h]

theorem Engine.srcTaken_of_innerd (n : Nat) (h : e.src = .innerd) :
    e.srcTaken n = { e with ipos := e.ipos + BitVec.ofNat 7 n } := by
  simp only [srcTaken, h]

/-- `IPOS` does not wrap: no more is taken than `INNERD` holds. -/
theorem Engine.srcTaken_ipos_toNat {n : Nat} (h : e.src = .innerd) (hle : e.ipos.toNat ≤ e.srcLen.toNat)
    (h64 : e.srcLen.toNat ≤ 64) (hn : n ≤ e.srcAvail) : (e.srcTaken n).ipos.toNat = e.ipos.toNat + n := by
  rw [srcAvail_of_innerd h] at hn
  rw [srcTaken_ipos, if_pos h, BitVec.toNat_add, BitVec.toNat_ofNat]
  omega

theorem Engine.srcTaken_zero (e : Engine) : e.srcTaken 0 = e := by
  cases h : e.src with
  | none => simp only [srcTaken, h]
  | key => simp [srcTaken_of_external 0 (.inl h)]
  | msg => simp [srcTaken_of_external 0 (.inr h)]
  | innerd => simp [srcTaken_of_innerd 0 h]

end Source

/-- Settles O15: an external source splits the window, and the inner digest is read at `IPOS`, which does not wrap. -/
theorem sourceHandsOverInOrder : Obligations.SourceHandsOverInOrder := by
  unfold Obligations.SourceHandsOverInOrder
  intro e n
  refine ⟨fun hx => ⟨Engine.srcAvail_of_external hx, fun hn => ⟨?length, ?split, ?frame⟩⟩,
    fun hi hle h64 => ⟨Engine.srcAvail_of_innerd hi, fun hn => ⟨e.srcBytes_length n hn h64, ?bytes,
      Engine.srcTaken_ipos_toNat hi hle h64 hn, ?frameInner⟩⟩, e.srcTaken_zero⟩
  case length => exact e.srcBytes_length_external n hn (by obtain h | h := hx <;> simp [h])
  case split => rw [Engine.srcBytes_of_external n hx, Engine.srcTaken_of_external n hx, List.take_append_drop]
  case frame => rw [Engine.srcTaken_of_external n hx]
  case bytes => exact fun k hk => by rw [Engine.srcBytes_of_innerd n hi, slice_getElem? _ hk]
  case frameInner => rw [Engine.srcTaken_of_innerd n hi]

/-! ## `WR.DIN` (R73) -/

theorem Engine.acceptByte_of_want {e : Engine} (b : Byte) (h : 0 < e.want) :
    e.acceptByte b = { e with ra := e.ra ++ [b], rcvd := e.rcvd + 1 } := by simp only [acceptByte, if_pos h]

theorem exec_wrDin (v : BitVec 32) (s : State) :
    exec (.wrDin v) s = .next (s.withEng (s.eng.acceptByte (v.extractLsb' 0 8))) := rfl

/-- Settles O48: the byte is accepted exactly where `WANT` is positive, by R42's three conditions. -/
theorem dinAppendsWhenWanted : Obligations.DinAppendsWhenWanted := by
  unfold Obligations.DinAppendsWhenWanted
  intro s v
  rw [exec_wrDin]
  refine ⟨fun hreq hroom hlt => ?_, fun hoff => ?_⟩
  · rw [Engine.acceptByte_of_want _ (Engine.want_pos.2 ⟨hreq, hroom, hlt⟩)]
  · have hwant : ¬0 < s.eng.want := fun h => by
      obtain ⟨hreq, hroom, hlt⟩ := Engine.want_pos.1 h
      obtain hz | hfull | hend := hoff
      · exact hreq hz
      · exact hfull.not_gt hroom
      · exact hend.not_gt hlt
    rw [Engine.acceptByte_of_not_want _ hwant, State.withEng_self]

/-! ## `WR.DINCTL` (R75) -/

theorem exec_wrDinctl_of_error {s : State} {v : BitVec 32} {k : ErrorKind} (h : s.eng.dinctlError v = some k) :
    exec (.wrDinctl v) s = .next (s.withEng (s.eng.enterError k)) := by
  show execWrDinctl v s = _
  simp only [execWrDinctl, h, State.raise_eq]

theorem exec_wrDinctl_of_no_error {s : State} {v : BitVec 32} (h : s.eng.dinctlError v = none) :
    exec (.wrDinctl v) s = .next s := by
  show execWrDinctl v s = _
  simp only [execWrDinctl, h, State.idle_eq]

section DinctlError

variable {e : Engine} {v : BitVec 32}

theorem Engine.dinctlError_of_no_request (h : e.req = 0) : e.dinctlError v = none := by
  simp only [dinctlError, if_pos h]

theorem Engine.dinctlError_of_no_bit (h : (dinctlEof v || dinctlReadfail v || dinctlOpenfail v) = false) :
    e.dinctlError v = none := by
  simp only [Bool.or_eq_false_iff] at h
  obtain ⟨⟨heof, hread⟩, hopen⟩ := h
  simp [dinctlError, heof, hread, hopen]

/-- Every bit reports the same of the key stream. -/
theorem Engine.dinctlError_key (hr : e.req = 1) (h : (dinctlEof v || dinctlReadfail v || dinctlOpenfail v) = true) :
    e.dinctlError v = some .keySourceError := by
  cases hopen : dinctlOpenfail v with
  | true => simp [dinctlError, hr, hopen]
  | false =>
    have hother : dinctlReadfail v = true ∨ dinctlEof v = true := by simpa [hopen, or_comm] using h
    simp [dinctlError, hr, hopen, hother]

/-- `OPENFAIL` of the message stream: the file did not open, unless a byte of it has come. -/
theorem Engine.dinctlError_msg_openfail (hr : e.req = 2) (hopen : dinctlOpenfail v = true) :
    e.dinctlError v = if e.rcvd = 0 then some .sourceOpenError else some .sourceReadError := by
  simp [dinctlError, hr, hopen]

theorem Engine.dinctlError_msg_read (hr : e.req = 2) (hopen : dinctlOpenfail v = false)
    (h : (dinctlEof v || dinctlReadfail v) = true) : e.dinctlError v = some .sourceReadError := by
  have hother : dinctlReadfail v = true ∨ dinctlEof v = true := by simpa [or_comm] using h
  simp [dinctlError, hr, hopen, hother]

end DinctlError

/-- Settles O49: `WR.DINCTL` enters the error `dinctlError` names, or does nothing; one case for each stream and bit. -/
theorem dinctlRaisesByPriority : Obligations.DinctlRaisesByPriority := by
  unfold Obligations.DinctlRaisesByPriority
  intro s v
  refine ⟨fun hr => ?noRequest, fun hr hbit => ?key, fun hr hopen hfirst => ?openFirst, fun hr hopen hlater => ?openLater,
    fun hr hopen hbit => ?read, fun hbit => ?noBit⟩
  case noRequest => exact exec_wrDinctl_of_no_error (Engine.dinctlError_of_no_request hr)
  case key => exact exec_wrDinctl_of_error (Engine.dinctlError_key hr hbit)
  case openFirst => exact exec_wrDinctl_of_error (by rw [Engine.dinctlError_msg_openfail hr hopen, if_pos hfirst])
  case openLater => exact exec_wrDinctl_of_error (by rw [Engine.dinctlError_msg_openfail hr hopen, if_neg hlater])
  case read => exact exec_wrDinctl_of_error (Engine.dinctlError_msg_read hr hopen hbit)
  case noBit => exact exec_wrDinctl_of_no_error (Engine.dinctlError_of_no_bit hbit)

end Sys2Proof.Machine
end

section
/-! PROOF. The encoding (30_encoding.md R90 to R106): what each format's bytes decode to, that encoding and decoding agree, and
what the write of a command word does (R95, R256). -/

namespace Sys2Proof

/-! ## Reading operands -/

section Operands

variable {k l v : Nat} {id : Byte} {i : Instr} (rest : List Byte)

theorem takeLE_leBytes_of_lt (hv : v < 256 ^ k) : takeLE k (leBytes k v ++ rest) = some (v, rest) := by
  rw [takeLE_leBytes, Nat.mod_eq_of_lt hv]

theorem takeLE_word (x : BitVec (8 * k)) : takeLE k (leBytes k x.toNat ++ rest) = some (x.toNat, rest) :=
  takeLE_leBytes_of_lt rest (Nat.pow_mul 2 8 k ▸ x.isLt)

theorem operand1_word (f : BitVec (8 * k) → Instr) (x : BitVec (8 * k)) :
    operand1 k (fun a => f (BitVec.ofNat _ a)) (leBytes k x.toNat ++ rest) = .ok (f x, rest) := by
  simp [operand1, takeLE_word]

theorem operand2_word (f : BitVec (8 * k) → BitVec (8 * l) → Instr) (x : BitVec (8 * k)) (y : BitVec (8 * l)) :
    operand2 k l (fun a b => f (BitVec.ofNat _ a) (BitVec.ofNat _ b)) (leBytes k x.toNat ++ leBytes l y.toNat ++ rest) =
      .ok (f x y, rest) := by
  simp [operand2, takeLE_word, operand1_word rest (f x)]

theorem operand3_word (f : BitVec (8 * k) → BitVec (8 * k) → BitVec (8 * k) → Instr) (x y z : BitVec (8 * k)) :
    operand3 k (fun a b c => f (BitVec.ofNat _ a) (BitVec.ofNat _ b) (BitVec.ofNat _ c))
      (leBytes k x.toNat ++ leBytes k y.toNat ++ leBytes k z.toNat ++ rest) = .ok (f x y z, rest) := by
  rw [List.append_assoc, List.append_assoc, ← List.append_assoc (leBytes k y.toNat)]
  simp only [operand3, takeLE_word, BitVec.ofNat_toNat, BitVec.setWidth_eq, operand2_word rest (f x)]

theorem operandByte_leBytes {f : Nat → Option Instr} (h : v < 256 ∧ f v = some i) :
    operandByte id f (leBytes 1 v ++ rest) = .ok (i, rest) := by
  obtain ⟨hv, hf⟩ := h
  simp only [operandByte, takeLE_leBytes_of_lt (k := 1) rest hv, hf]

end Operands

theorem vlookupOperand_of_fields : ∀ (name : BitVec 3) (w64 : Bool),
    16 * name.toNat + 128 * w64.toNat < 256 ∧
      vlookupOperand (16 * name.toNat + 128 * w64.toNat) = some (.vlookup name w64) := by
  decide

theorem kconstOperand_toNat (t : BitVec 7) : t.toNat < 256 ∧ kconstOperand t.toNat = some (.kconst t) := by
  have ht : t.toNat < 128 := t.isLt
  exact ⟨by omega, by simp [kconstOperand, ht.not_ge]⟩

theorem errEnterOperand_index (kind : ErrorKind) : kind.index < 256 ∧ errEnterOperand kind.index = some (.errEnter kind) := by
  cases kind <;> decide

/-! ## Command words (R91, R92, R95) -/

theorem decodeCommand_of_reserved {v : BitVec 32} (h : v &&& reservedCommandMask ≠ 0#32) :
    decodeCommand v = .error (.reservedCommandBits v) := by
  rw [decodeCommand, if_pos h]

theorem decodeCommand_of_not_reserved {v : BitVec 32} (h : v &&& reservedCommandMask = 0#32) :
    decodeCommand v = .ok (if hmacField v then .hmac (textField v) (nameField v) (w64Field v)
      else .digest (textField v) (nameField v) (w64Field v)) := by
  rw [decodeCommand, if_neg (not_not.2 h)]
  cases hmacField v <;> rfl

/-- The mask of R92 keeps the reserved bits. -/
theorem reserved_of_selected {v m : BitVec 32} (h : v &&& 0xFFFFFF0D#32 = m) :
    v &&& reservedCommandMask = m &&& reservedCommandMask := by
  rw [← h, BitVec.and_assoc]; rfl

/-- The mask of R92 keeps the HMAC bit. -/
theorem hmacField_of_selected {v m : BitVec 32} (h : v &&& 0xFFFFFF0D#32 = m) : hmacField v = hmacField m := by
  simp [← h, hmacField]

theorem decodeCommand_of_selected {v m : BitVec 32} (h : v &&& 0xFFFFFF0D#32 = m) (hm : m &&& reservedCommandMask = 0#32) :
    decodeCommand v = .ok (if hmacField m then .hmac (textField v) (nameField v) (w64Field v)
      else .digest (textField v) (nameField v) (w64Field v)) := by
  rw [decodeCommand_of_not_reserved ((reserved_of_selected h).trans hm), hmacField_of_selected h]

/-- Settles O8: the mask of R92 is the reserved bits and the HMAC bit. -/
theorem commandWordsDecodeByMask : Obligations.CommandWordsDecodeByMask := by
  unfold Obligations.CommandWordsDecodeByMask
  exact fun v => ⟨fun h => decodeCommand_of_selected h rfl, fun h => decodeCommand_of_selected h rfl, decodeCommand_of_reserved⟩

/-- Reading the fields of R91 back from the word R109 builds of them. -/
theorem cmdWord_fields : ∀ (h t w64 : Bool) (name : BitVec 3),
    cmdWord h t name w64 &&& reservedCommandMask = 0#32 ∧ hmacField (cmdWord h t name w64) = h ∧
      textField (cmdWord h t name w64) = t ∧ nameField (cmdWord h t name w64) = name ∧
      w64Field (cmdWord h t name w64) = w64 := by
  decide

theorem decodeCommand_cmdWord (h t : Bool) (name : BitVec 3) (w64 : Bool) :
    decodeCommand (cmdWord h t name w64) = .ok (if h then .hmac t name w64 else .digest t name w64) := by
  obtain ⟨hreserved, hh, ht, hn, hw⟩ := cmdWord_fields h t w64 name
  rw [decodeCommand_of_not_reserved hreserved, hh, ht, hn, hw]

/-! ## Bus accesses (R104) -/

theorem decode_bus_leBytes {header : Nat} (bs : List Byte) (h : header < 1024) :
    decode .bus (leBytes 2 header ++ bs) = decodeBus header bs := by
  simp only [decode, takeLE_leBytes_of_lt (k := 2) bs (h.trans (by decide))]

section Bus

variable {off : BitVec 9} {v : BitVec 32} {rest : List Byte}

/-- `we` in bit 9 of a write's header stands above the offset. -/
theorem ofNat_writeHeader (off : BitVec 9) : BitVec.ofNat 9 (0x200 + off.toNat) = off := by
  apply BitVec.eq_of_toNat_eq
  rw [BitVec.toNat_ofNat, Nat.add_mod_left, Nat.mod_eq_of_lt off.isLt]

theorem writeHeader_lt (off : BitVec 9) : 0x200 + off.toNat < 1024 := Nat.add_lt_add_left off.isLt 0x200

theorem writeHeader_mod (off : BitVec 9) : (0x200 + off.toNat) % 4 = off.toNat % 4 := by omega

theorem readHeader_lt (off : BitVec 9) : off.toNat < 1024 := off.isLt.trans (by decide)

theorem decode_read (h : off.toNat % 4 = 0) : decode .bus (leBytes 2 off.toNat ++ rest) = .ok (decodeRead off, rest) := by
  have hlt : off.toNat < 512 := off.isLt
  rw [decode_bus_leBytes rest (readHeader_lt off)]
  simp [decodeBus, (readHeader_lt off).not_ge, h, hlt]

theorem decode_read_misaligned (h : off.toNat % 4 ≠ 0) :
    decode .bus (leBytes 2 off.toNat ++ rest) = .error (.misaligned off) := by
  rw [decode_bus_leBytes rest (readHeader_lt off)]
  simp [decodeBus, (readHeader_lt off).not_ge, h]

theorem decode_write (h : off.toNat % 4 = 0) :
    decode .bus (leBytes 2 (0x200 + off.toNat) ++ leBytes 4 v.toNat ++ rest) = .ok (decodeWrite off v, rest) := by
  rw [List.append_assoc, decode_bus_leBytes _ (writeHeader_lt off)]
  simp [decodeBus, (writeHeader_lt off).not_ge, writeHeader_mod, h, takeLE_word (k := 4) rest v, ofNat_writeHeader]

theorem decode_write_misaligned (h : off.toNat % 4 ≠ 0) :
    decode .bus (leBytes 2 (0x200 + off.toNat) ++ leBytes 4 v.toNat ++ rest) = .error (.misaligned off) := by
  rw [List.append_assoc, decode_bus_leBytes _ (writeHeader_lt off)]
  simp [decodeBus, (writeHeader_lt off).not_ge, writeHeader_mod, h, ofNat_writeHeader]

end Bus

/-! ## The table of R104, row by row -/

section Rows

variable {n : Nat} {rows : List (Nat × Instr)} {null : Instr}

theorem lookup_getD_of_not_mem (h : n ∉ rows.map Prod.fst) : (rows.lookup n).getD null = null := by
  have hnone : rows.lookup n = none := by
    rw [List.lookup_eq_none_iff]
    intro row hrow
    exact bne_iff_ne.2 fun he => h (he ▸ List.mem_map_of_mem hrow)
  rw [hnone, Option.getD_none]

theorem wellFormed_lookup_getD (hrows : ∀ row ∈ rows, row.2.wellFormed = true)
    (hnull : n ∉ rows.map Prod.fst → null.wellFormed = true) : ((rows.lookup n).getD null).wellFormed = true := by
  by_cases hmem : n ∈ rows.map Prod.fst
  · obtain ⟨i, hi⟩ : ∃ i, rows.lookup n = some i := by
      rw [← Option.isSome_iff_exists, List.lookup_isSome_iff]
      obtain ⟨row, hrow, rfl⟩ := List.mem_map.1 hmem
      exact ⟨row, hrow, beq_self_eq_true _⟩
    obtain ⟨l₁, l₂, rfl, -⟩ := List.lookup_eq_some_iff.1 hi
    rw [hi]
    exact hrows (n, i) (by simp)
  · rw [lookup_getD_of_not_mem hmem]
    exact hnull hmem

end Rows

/-- The rows of R104 for reads, but for `RD.OBUF` and `BUS.NULL`. -/
def readRows : List (Nat × Instr) :=
  [(0x004, .rdStatus), (0x008, .rdErr), (0x00C, .rdWant), (0x010, .rdMsglenLo), (0x014, .rdMsglenHi), (0x018, .rdKeylenLo),
    (0x01C, .rdKeylenHi), (0x028, .rdRlen), (0x02C, .rdDlen), (0x030, .rdOlen)]

/-- The rows of R104 for writes, but for `BUS.NULL`. -/
def writeRows (v : BitVec 32) : List (Nat × Instr) :=
  [(0x000, .wrCmd v), (0x010, .wrMsglenLo v), (0x014, .wrMsglenHi v), (0x018, .wrKeylenLo v), (0x01C, .wrKeylenHi v),
    (0x020, .wrDin v), (0x024, .wrDinctl v)]

section Offsets

variable {off : BitVec 9} {v : BitVec 32}

theorem obufIndex_of_offset (h : 0x100 ≤ off.toNat) : off.extractLsb' 2 6 = BitVec.ofNat 6 ((off.toNat - 0x100) / 4) := by
  apply BitVec.eq_of_toNat_eq
  rw [BitVec.extractLsb'_toNat, BitVec.toNat_ofNat, Nat.shiftRight_eq_div_pow]
  omega

theorem decodeRead_eq_lookup (off : BitVec 9) : decodeRead off = (readRows.lookup off.toNat).getD
    (if 0x100 ≤ off.toNat then .rdObuf (BitVec.ofNat 6 ((off.toNat - 0x100) / 4)) else .busNull (.read off)) := by
  unfold decodeRead
  split
  case h_11 =>
    rw [lookup_getD_of_not_mem (by simp_all [readRows])]
    exact if_ctx_congr Iff.rfl (fun h => by rw [obufIndex_of_offset h]) fun _ => rfl
  all_goals simp [readRows, List.lookup, *]

theorem decodeWrite_eq_lookup (off : BitVec 9) (v : BitVec 32) :
    decodeWrite off v = ((writeRows v).lookup off.toNat).getD (.busNull (.write off v)) := by
  unfold decodeWrite
  split
  case h_8 =>
    rw [lookup_getD_of_not_mem (by simp_all [writeRows])]
  all_goals simp [writeRows, List.lookup, *]

theorem wellFormed_busNull_read : (Instr.busNull (.read off)).wellFormed = true ↔
    off.toNat % 4 = 0 ∧ off.toNat ∉ readRows.map Prod.fst ∧ ¬0x100 ≤ off.toNat := by
  simp [Instr.wellFormed, NullAccess.wellFormed, offAligned, readListed, readRows]

theorem wellFormed_busNull_write : (Instr.busNull (.write off v)).wellFormed = true ↔
    off.toNat % 4 = 0 ∧ off.toNat ∉ (writeRows v).map Prod.fst := by
  simp [Instr.wellFormed, NullAccess.wellFormed, offAligned, writeListed, writeRows]

theorem mem_readRows_lt : ∀ n ∈ readRows.map Prod.fst, n < 0x100 := by decide

theorem decodeRead_of_obuf (h : 0x100 ≤ off.toNat) : decodeRead off = .rdObuf (BitVec.ofNat 6 ((off.toNat - 0x100) / 4)) := by
  have hrows : off.toNat ∉ readRows.map Prod.fst := fun hmem => absurd (mem_readRows_lt _ hmem) h.not_gt
  rw [decodeRead_eq_lookup, lookup_getD_of_not_mem hrows, if_pos h]

theorem decodeRead_of_null (h : (Instr.busNull (.read off)).wellFormed = true) : decodeRead off = .busNull (.read off) := by
  obtain ⟨-, hrows, hobuf⟩ := wellFormed_busNull_read.1 h
  rw [decodeRead_eq_lookup, lookup_getD_of_not_mem hrows, if_neg hobuf]

theorem decodeWrite_of_null (h : (Instr.busNull (.write off v)).wellFormed = true) :
    decodeWrite off v = .busNull (.write off v) := by
  obtain ⟨-, hrows⟩ := wellFormed_busNull_write.1 h
  rw [decodeWrite_eq_lookup, lookup_getD_of_not_mem hrows]

theorem decodeRead_wellFormed (h : off.toNat % 4 = 0) : (decodeRead off).wellFormed = true := by
  rw [decodeRead_eq_lookup]
  refine wellFormed_lookup_getD (by decide) fun hrows => ?_
  split
  · rfl
  · next hobuf => exact wellFormed_busNull_read.2 ⟨h, hrows, hobuf⟩

theorem decodeWrite_wellFormed (h : off.toNat % 4 = 0) : (decodeWrite off v).wellFormed = true := by
  rw [decodeWrite_eq_lookup]
  exact wellFormed_lookup_getD (by simp [writeRows, Instr.wellFormed]) fun hrows => wellFormed_busNull_write.2 ⟨h, hrows⟩

end Offsets

/-- Settles O6: the decoder answers with the row of the table that has the offset, where there is one. -/
theorem busAccessesDecodeByTable : Obligations.BusAccessesDecodeByTable := by
  unfold Obligations.BusAccessesDecodeByTable
  intro off v rest
  refine ⟨fun h => ⟨decode_read_misaligned h, decode_write_misaligned h⟩, fun h => ⟨?read, ?write⟩⟩
  case read => rw [decode_read h, decodeRead_eq_lookup]; rfl
  case write => rw [decode_write h, decodeWrite_eq_lookup]; rfl

/-! ## Internal operations (R105) -/

/-- The identifiers of R105. -/
def uopIds : List Nat :=
  List.range 10 ++ (List.range 10).map (0x80 + ·) ++ [0x10, 0x11] ++ (List.range 8).map (0x20 + ·) ++
    (List.range 6).map (0x30 + ·) ++ (List.range 3).map (0x40 + ·) ++ (List.range 7).map (0x50 + ·) ++
    (List.range 3).map (0x60 + ·) ++ [0x70, 0x71]

/-- What the bytes after a listed identifier can decode to: a well-formed operation, or a rejection for its operands' sake. -/
inductive Decoded.Listed : Decoded → Prop
  | operation {i : Instr} (rest : List Byte) (h : i.wellFormed = true) : Listed (.ok (i, rest))
  | truncated : Listed (.error .truncated)
  | badOperand (id operand : Byte) : Listed (.error (.badOperand id operand))

namespace Decoded.Listed

variable {k l : Nat} {id : Byte} {bs : List Byte}

theorem operand1 {f : Nat → Instr} (h : ∀ x, (f x).wellFormed = true) : Listed (operand1 k f bs) := by
  unfold Sys2Proof.operand1
  split
  · exact truncated
  · exact operation _ (h _)

theorem operand2 {f : Nat → Nat → Instr} (h : ∀ x y, (f x y).wellFormed = true) : Listed (operand2 k l f bs) := by
  unfold Sys2Proof.operand2
  split
  · exact truncated
  · exact operand1 (h _)

theorem operand3 {f : Nat → Nat → Nat → Instr} (h : ∀ x y z, (f x y z).wellFormed = true) : Listed (operand3 k f bs) := by
  unfold Sys2Proof.operand3
  split
  · exact truncated
  · exact operand2 (h _)

theorem operandByte {f : Nat → Option Instr} (h : ∀ x, ∀ i ∈ f x, i.wellFormed = true) : Listed (operandByte id f bs) := by
  unfold Sys2Proof.operandByte
  split
  · exact truncated
  · split
    · exact badOperand _ _
    · next hf => exact operation _ (h _ _ hf)

theorem ne_noOperation {d : Decoded} (h : d.Listed) : d ≠ .error (.noOperation id) := by
  rintro rfl
  cases h

theorem wellFormed {i : Instr} {rest : List Byte} (h : Listed (.ok (i, rest))) : i.wellFormed = true := by
  cases h with
  | operation _ hi => exact hi

end Decoded.Listed

theorem vlookupOperand_wellFormed (x : Nat) : ∀ i ∈ vlookupOperand x, i.wellFormed = true := by
  intro i hi
  obtain ⟨-, hi⟩ := Option.ite_none_left_eq_some.1 hi
  obtain rfl := Option.some.inj hi
  rfl

theorem kconstOperand_wellFormed (x : Nat) : ∀ i ∈ kconstOperand x, i.wellFormed = true := by
  intro i hi
  obtain ⟨-, hi⟩ := Option.ite_none_left_eq_some.1 hi
  obtain rfl := Option.some.inj hi
  rfl

theorem errEnterOperand_wellFormed (x : Nat) : ∀ i ∈ errEnterOperand x, i.wellFormed = true := by
  intro i hi
  obtain ⟨kind, -, rfl⟩ := Option.map_eq_some_iff.1 hi
  rfl

theorem decodeUop_of_listed {id : Byte} (bs : List Byte) (h : id.toNat ∈ uopIds) : (decodeUop id bs).Listed := by
  unfold decodeUop
  split
  case h_52 =>
    simp only [imp_false] at *
    simp [uopIds, List.range_succ, *] at h
  case h_1 | h_2 | h_3 | h_4 | h_5 | h_6 => exact .operand2 fun _ _ => rfl
  case h_15 | h_16 | h_17 | h_18 => exact .operand3 fun _ _ _ => rfl
  case h_7 | h_8 | h_9 | h_10 | h_11 | h_12 | h_13 | h_14 | h_19 | h_20 => exact .operand1 fun _ => rfl
  case h_21 => exact .operandByte vlookupOperand_wellFormed
  case h_22 => exact .operandByte kconstOperand_wellFormed
  case h_50 => exact .operandByte errEnterOperand_wellFormed
  all_goals exact .operation bs rfl

theorem decodeUop_of_not_listed {id : Byte} (bs : List Byte) (h : id.toNat ∉ uopIds) :
    decodeUop id bs = .error (.noOperation id) := by
  unfold decodeUop
  split
  case h_52 => rfl
  all_goals
    next hid => exact absurd (by rw [hid]; decide) h

/-- Settles O7: a listed identifier is never the reason of a rejection. -/
theorem unlistedIdentifiersAreRefused : Obligations.UnlistedIdentifiersAreRefused := by
  unfold Obligations.UnlistedIdentifiersAreRefused
  intro id rest
  exact ⟨fun hrefused hid => (decodeUop_of_listed rest hid).ne_noOperation hrefused, decodeUop_of_not_listed rest⟩

/-! ## What decodes is well-formed -/

theorem decodeCommand_wellFormed {v : BitVec 32} {i : Instr} (h : decodeCommand v = .ok i) : i.wellFormed = true := by
  by_cases hreserved : v &&& reservedCommandMask = 0#32
  · rw [decodeCommand_of_not_reserved hreserved] at h
    obtain rfl := Except.ok.inj h
    cases hmacField v <;> rfl
  · rw [decodeCommand_of_reserved hreserved] at h
    cases h

theorem decodeBus_wellFormed {header : Nat} {bs rest : List Byte} {i : Instr} (h : decodeBus header bs = .ok (i, rest)) :
    i.wellFormed = true := by
  unfold decodeBus at h
  split at h
  · cases h
  · split at h
    · cases h
    · next h4 =>
      have haligned : (BitVec.ofNat 9 header).toNat % 4 = 0 := by rw [BitVec.toNat_ofNat]; omega
      split at h
      · cases h
        exact decodeRead_wellFormed haligned
      · split at h
        · cases h
        · cases h
          exact decodeWrite_wellFormed haligned

theorem decodeUop_wellFormed {id : Byte} {bs rest : List Byte} {i : Instr} (h : decodeUop id bs = .ok (i, rest)) :
    i.wellFormed = true := by
  by_cases hid : id.toNat ∈ uopIds
  · exact (h ▸ decodeUop_of_listed bs hid).wellFormed
  · rw [decodeUop_of_not_listed bs hid] at h
    cases h

/-- Settles O4: one lemma for each format. -/
theorem decodedOperationsAreWellFormed : Obligations.DecodedOperationsAreWellFormed := by
  unfold Obligations.DecodedOperationsAreWellFormed
  intro fmt bs rest i h
  cases fmt with
  | cmd =>
    simp only [decode] at h
    split at h
    · cases h
    · split at h
      · cases h
      · next hv =>
        cases h
        exact decodeCommand_wellFormed hv
  | bus =>
    simp only [decode] at h
    split at h
    · cases h
    · exact decodeBus_wellFormed h
  | uop =>
    cases bs with
    | nil => cases h
    | cons id bs => exact decodeUop_wellFormed h

/-! ## Decoding an encoding -/

section RoundTrip

variable {i : Instr} (rest : List Byte)

theorem decode_encodeCommand {v : BitVec 32} (h : decodeCommand v = .ok i) :
    decode (encodeCommand v).fmt ((encodeCommand v).bytes ++ rest) = .ok (i, rest) := by
  simp only [decode, encodeCommand, takeLE_word (k := 4) rest v, BitVec.ofNat_toNat, BitVec.setWidth_eq, h]

theorem decode_encodeRead (off : BitVec 9) (h : off.toNat % 4 = 0) (hi : decodeRead off = i) :
    decode (encodeRead off.toNat).fmt ((encodeRead off.toNat).bytes ++ rest) = .ok (i, rest) := hi ▸ decode_read h

theorem decode_encodeWrite (off : BitVec 9) (v : BitVec 32) (h : off.toNat % 4 = 0) (hi : decodeWrite off v = i) :
    decode (encodeWrite off.toNat v).fmt ((encodeWrite off.toNat v).bytes ++ rest) = .ok (i, rest) := hi ▸ decode_write h

theorem decode_encode_rdObuf (j : BitVec 6) :
    decode (encode (.rdObuf j)).fmt ((encode (.rdObuf j)).bytes ++ rest) = .ok (.rdObuf j, rest) := by
  have hj : j.toNat < 64 := j.isLt
  have hoff : (BitVec.ofNat 9 (0x100 + 4 * j.toNat)).toNat = 0x100 + 4 * j.toNat := by rw [BitVec.toNat_ofNat]; omega
  have hread : decodeRead (BitVec.ofNat 9 (0x100 + 4 * j.toNat)) = .rdObuf j := by
    rw [decodeRead_of_obuf (by omega), hoff, Nat.add_sub_cancel_left, Nat.mul_div_cancel_left _ (by decide), BitVec.ofNat_toNat,
      BitVec.setWidth_eq]
  have hdecode := decode_encodeRead rest (BitVec.ofNat 9 (0x100 + 4 * j.toNat)) (by omega) hread
  rwa [hoff] at hdecode

theorem decode_encode_busNull (a : NullAccess) (h : (Instr.busNull a).wellFormed = true) :
    decode (encode (.busNull a)).fmt ((encode (.busNull a)).bytes ++ rest) = .ok (.busNull a, rest) := by
  cases a with
  | read off => exact decode_encodeRead rest off (wellFormed_busNull_read.1 h).1 (decodeRead_of_null h)
  | write off v => exact decode_encodeWrite rest off v (wellFormed_busNull_write.1 h).1 (decodeWrite_of_null h)

end RoundTrip

/-- Settles O3: one case for each operation, by the form of its operands; the last is of those that have none. -/
theorem decodeEncodeAgree : Obligations.DecodeEncodeAgree := by
  unfold Obligations.DecodeEncodeAgree
  intro i rest h
  cases i with
  | digest t n w => exact decode_encodeCommand rest (decodeCommand_cmdWord false t n w)
  | hmac t n w => exact decode_encodeCommand rest (decodeCommand_cmdWord true t n w)
  | wrCmd v => exact decode_encodeWrite rest 0x000#9 v rfl rfl
  | rdStatus => exact decode_encodeRead rest 0x004#9 rfl rfl
  | rdErr => exact decode_encodeRead rest 0x008#9 rfl rfl
  | rdWant => exact decode_encodeRead rest 0x00C#9 rfl rfl
  | rdMsglenLo => exact decode_encodeRead rest 0x010#9 rfl rfl
  | wrMsglenLo v => exact decode_encodeWrite rest 0x010#9 v rfl rfl
  | rdMsglenHi => exact decode_encodeRead rest 0x014#9 rfl rfl
  | wrMsglenHi v => exact decode_encodeWrite rest 0x014#9 v rfl rfl
  | rdKeylenLo => exact decode_encodeRead rest 0x018#9 rfl rfl
  | wrKeylenLo v => exact decode_encodeWrite rest 0x018#9 v rfl rfl
  | rdKeylenHi => exact decode_encodeRead rest 0x01C#9 rfl rfl
  | wrKeylenHi v => exact decode_encodeWrite rest 0x01C#9 v rfl rfl
  | wrDin v => exact decode_encodeWrite rest 0x020#9 v rfl rfl
  | wrDinctl v => exact decode_encodeWrite rest 0x024#9 v rfl rfl
  | rdRlen => exact decode_encodeRead rest 0x028#9 rfl rfl
  | rdDlen => exact decode_encodeRead rest 0x02C#9 rfl rfl
  | rdOlen => exact decode_encodeRead rest 0x030#9 rfl rfl
  | rdObuf j => exact decode_encode_rdObuf rest j
  | busNull a => exact decode_encode_busNull rest a h
  | rotr32 x n => exact operand2_word (k := 4) (l := 1) rest .rotr32 x n
  | rotr64 x n => exact operand2_word (k := 8) (l := 1) rest .rotr64 x n
  | shr32 x n => exact operand2_word (k := 4) (l := 1) rest .shr32 x n
  | shr64 x n => exact operand2_word (k := 8) (l := 1) rest .shr64 x n
  | add32 x y => exact operand2_word (k := 4) (l := 4) rest .add32 x y
  | add64 x y => exact operand2_word (k := 8) (l := 8) rest .add64 x y
  | bsig0x32 x => exact operand1_word (k := 4) rest .bsig0x32 x
  | bsig0x64 x => exact operand1_word (k := 8) rest .bsig0x64 x
  | bsig1x32 x => exact operand1_word (k := 4) rest .bsig1x32 x
  | bsig1x64 x => exact operand1_word (k := 8) rest .bsig1x64 x
  | ssig0x32 x => exact operand1_word (k := 4) rest .ssig0x32 x
  | ssig0x64 x => exact operand1_word (k := 8) rest .ssig0x64 x
  | ssig1x32 x => exact operand1_word (k := 4) rest .ssig1x32 x
  | ssig1x64 x => exact operand1_word (k := 8) rest .ssig1x64 x
  | ch32 x y z => exact operand3_word (k := 4) rest .ch32 x y z
  | ch64 x y z => exact operand3_word (k := 8) rest .ch64 x y z
  | maj32 x y z => exact operand3_word (k := 4) rest .maj32 x y z
  | maj64 x y z => exact operand3_word (k := 8) rest .maj64 x y z
  | bswap32 x => exact operand1_word (k := 4) rest .bswap32 x
  | bswap64 x => exact operand1_word (k := 8) rest .bswap64 x
  | vlookup n w => exact operandByte_leBytes rest (vlookupOperand_of_fields n w)
  | kconst t => exact operandByte_leBytes rest (kconstOperand_toNat t)
  | errEnter kind => exact operandByte_leBytes rest (errEnterOperand_index kind)
  | _ => rfl

/-! ## Words of the tables -/

/-- Settles O5: fourteen fixed words, decoded by evaluation. -/
theorem specWordsDecode : Obligations.SpecWordsDecode := by
  unfold Obligations.SpecWordsDecode
  decide

/-! ## The write of a command word (R94, R95, R256, R330) -/

namespace Machine

theorem exec_wrCmd_of_busy {s : State} (v : BitVec 32) (h : s.eng.busy = true) : exec (.wrCmd v) s = .next s :=
  State.actIf_false _ (by simp [h])

theorem Engine.enterError_cleared (e : Engine) (k : ErrorKind) : e.cleared.enterError k = e.enterError k := rfl

section AcceptWord

variable {e : Engine} {v : BitVec 32}

theorem Engine.acceptWord_of_reserved (h : v &&& reservedCommandMask ≠ 0#32) : e.acceptWord v = e.enterError .badCommand := by
  rw [acceptWord, if_pos h, enterError_cleared]

theorem Engine.acceptWord_of_not_reserved (h : v &&& reservedCommandMask = 0#32) :
    e.acceptWord v = e.cleared.startCommand (hmacField v) (textField v) (nameField v) (w64Field v) := by
  rw [acceptWord, if_neg (not_not.2 h)]

end AcceptWord

/-- The six pairs of R93 are the only ones that name a variant (R94). -/
theorem lookupVariant_of_not_listed : ∀ (name : BitVec 3) (w64 : Bool),
    (name.toNat, w64) ∉ [(0, false), (1, false), (2, true), (3, true), (4, true), (5, true)] →
      lookupVariant name w64 = none := by
  decide

theorem Engine.startCommand_of_unknown {e : Engine} {isHmac text : Bool} {name : BitVec 3} {w64 : Bool}
    (h : lookupVariant name w64 = none) : e.startCommand isHmac text name w64 = e.enterError .unknownVariant := by
  simp only [startCommand, h]

/-- A command's instruction starts the command its word starts. -/
theorem exec_command_of_not_busy {s : State} (isHmac text : Bool) (name : BitVec 3) (w64 : Bool) (h : s.eng.busy = false) :
    exec (if isHmac then .hmac text name w64 else .digest text name w64) s =
      .next (s.withEng (s.eng.cleared.startCommand isHmac text name w64)) := by
  cases isHmac <;> exact State.actIf_true _ (by simp [h])

/-- Settles O44: one case for each thing R256 can do with the word. -/
theorem commandWordsInPriority : Obligations.CommandWordsInPriority := by
  unfold Obligations.CommandWordsInPriority
  intro s v
  refine ⟨exec_wrCmd_of_busy v, fun hbusy hreserved => ?bad, fun hbusy hreserved hpair => ?unknown,
    fun hbusy hreserved => ?command⟩
  case bad => rw [exec_wrCmd_of_not_busy v hbusy, Engine.acceptWord_of_reserved hreserved]
  case unknown =>
    rw [exec_wrCmd_of_not_busy v hbusy, Engine.acceptWord_of_not_reserved hreserved,
      Engine.startCommand_of_unknown (lookupVariant_of_not_listed (nameField v) (w64Field v) hpair), Engine.enterError_cleared]
  case command =>
    rw [exec_wrCmd_of_not_busy v hbusy, Engine.acceptWord_of_not_reserved hreserved]
    exact (exec_command_of_not_busy _ _ _ _ hbusy).symm

end Machine

end Sys2Proof
end

section
/-! PROOF. WordOps (40_wordops.md R121 to R134): the word functions bit by bit, byte by byte and as numbers, at every width, and
from them what each word operation returns. -/

namespace Sys2Proof

/-! ## The bytes of a number -/

/-- A byte of a word, as a digit of its number to base 256. -/
theorem extractByte_eq {w : Nat} (x : BitVec w) (k : Nat) : x.extractLsb' (8 * k) 8 = BitVec.ofNat 8 (x.toNat / 256 ^ k) := by
  rw [BitVec.extractLsb', Nat.shiftRight_eq_div_pow, Nat.pow_mul]

theorem ofNat_leNat_div (bs : List Byte) (k : Nat) (h : k < bs.length) : BitVec.ofNat 8 (leNat bs / 256 ^ k) = bs[k] := by
  induction bs generalizing k with
  | nil => exact absurd h (Nat.not_lt_zero k)
  | cons b bs ih =>
    have hb : b.toNat < 256 := b.isLt
    cases k with
    | zero =>
      apply BitVec.eq_of_toNat_eq
      simpa [leNat] using hb
    | succ k =>
      have hdiv : (b.toNat + 256 * leNat bs) / 256 = leNat bs := by omega
      rw [leNat, Nat.pow_succ', ← Nat.div_div_eq_div_mul, hdiv]
      exact ih k (Nat.lt_of_succ_lt_succ h)

theorem leBytes_getElem (k v i : Nat) (h : i < (leBytes k v).length) : (leBytes k v)[i] = BitVec.ofNat 8 (v / 256 ^ i) := by
  induction k generalizing v i with
  | zero => exact absurd h (Nat.not_lt_zero i)
  | succ k ih =>
    cases i with
    | zero => simp [leBytes]
    | succ i =>
      rw [Nat.pow_succ', ← Nat.div_div_eq_div_mul]
      exact ih (v / 256) i (Nat.lt_of_succ_lt_succ h)

namespace Machine

theorem beBytes_getElem (k v i : Nat) (h : i < (beBytes k v).length) :
    (beBytes k v)[i] = BitVec.ofNat 8 (v / 256 ^ (k - 1 - i)) := by
  simp [beBytes, leBytes_getElem]

/-! ## The word functions at every width -/

section Bits

variable {w i : Nat} (x y z : BitVec w)

/-- R121's formula is the library's rotation. -/
theorem rotrBy_eq_rotateRightAux (n : Nat) : rotrBy x n = x.rotateRightAux n := rfl

theorem getLsbD_rotrBy {n : Nat} (hn : n < w) (hi : i < w) : (rotrBy x n).getLsbD i = x.getLsbD ((i + n) % w) := by
  rw [rotrBy_eq_rotateRightAux]
  by_cases hlow : i < w - n
  · rw [BitVec.getLsbD_rotateRightAux_of_lt hlow, Nat.mod_eq_of_lt (by omega), Nat.add_comm]
  · have hwrap : (i + n) % w = i - (w - n) := by
      rw [show i + n = i - (w - n) + w by omega, Nat.add_mod_right, Nat.mod_eq_of_lt (by omega)]
    rw [BitVec.getLsbD_rotateRightAux_of_ge (by omega), hwrap, decide_eq_true hi, Bool.true_and]

theorem getLsbD_shrBy (n : Nat) : (shrBy x n).getLsbD i = (decide (i + n < w) && x.getLsbD (i + n)) := by
  rw [shrBy, BitVec.getLsbD_ushiftRight, Nat.add_comm n i]
  by_cases hin : i + n < w
  · simp [hin]
  · simp [hin, Nat.le_of_not_lt hin]

theorem toNat_shrBy (n : Nat) : (shrBy x n).toNat = x.toNat / 2 ^ n := by
  rw [shrBy, BitVec.toNat_ushiftRight, Nat.shiftRight_eq_div_pow]

/-- The big sigmas (R124 to R127). -/
theorem getLsbD_rotrBy_xor_rotrBy {a b c : Nat} (ha : a < w) (hb : b < w) (hc : c < w) (hi : i < w) :
    (rotrBy x a ^^^ rotrBy x b ^^^ rotrBy x c).getLsbD i =
      (x.getLsbD ((i + a) % w) ^^ x.getLsbD ((i + b) % w) ^^ x.getLsbD ((i + c) % w)) := by
  rw [BitVec.getLsbD_xor, BitVec.getLsbD_xor, getLsbD_rotrBy x ha hi, getLsbD_rotrBy x hb hi,
    getLsbD_rotrBy x hc hi]

/-- The small sigmas (R128 to R131). -/
theorem getLsbD_rotrBy_xor_shrBy {a b : Nat} (c : Nat) (ha : a < w) (hb : b < w) (hi : i < w) :
    (rotrBy x a ^^^ rotrBy x b ^^^ shrBy x c).getLsbD i =
      (x.getLsbD ((i + a) % w) ^^ x.getLsbD ((i + b) % w) ^^ (decide (i + c < w) && x.getLsbD (i + c))) := by
  rw [BitVec.getLsbD_xor, BitVec.getLsbD_xor, getLsbD_rotrBy x ha hi, getLsbD_rotrBy x hb hi, getLsbD_shrBy]

theorem getLsbD_chWords (hi : i < w) : (chWords x y z).getLsbD i = if x.getLsbD i then y.getLsbD i else z.getLsbD i := by
  rw [chWords, BitVec.getLsbD_xor, BitVec.getLsbD_and, BitVec.getLsbD_and, BitVec.getLsbD_not]
  cases x.getLsbD i <;> simp [hi]

/-- The exclusive-or of the three conjunctions is the majority. -/
theorem xor_ands_eq_majority :
    ∀ a b c : Bool, ((a && b) ^^ (a && c) ^^ (b && c)) = decide (2 ≤ a.toNat + b.toNat + c.toNat) := by
  decide

theorem getLsbD_majWords : (majWords x y z).getLsbD i =
    decide (2 ≤ (x.getLsbD i).toNat + (y.getLsbD i).toNat + (z.getLsbD i).toNat) := by
  rw [← xor_ands_eq_majority, majWords, BitVec.getLsbD_xor, BitVec.getLsbD_xor, BitVec.getLsbD_and, BitVec.getLsbD_and,
    BitVec.getLsbD_and]

theorem toNat_addWords : (addWords x y).toNat = (x.toNat + y.toNat) % 2 ^ w := BitVec.toNat_add x y

end Bits

/-- Reading the big-endian bytes of a word least significant first reverses them (R134). -/
theorem extractByte_leNat_beBytes {n k : Nat} (x : BitVec (8 * n)) (hk : k < n) :
    (BitVec.ofNat (8 * n) (leNat (beBytes n x.toNat))).extractLsb' (8 * k) 8 = x.extractLsb' (8 * (n - 1 - k)) 8 := by
  have hlen : (beBytes n x.toNat).length = n := beBytes_length n x.toNat
  have hlt : leNat (beBytes n x.toNat) < 2 ^ (8 * n) := by
    have := leNat_lt (beBytes n x.toNat)
    rwa [hlen, ← Nat.pow_mul 2 8 n] at this
  rw [extractByte_eq, BitVec.toNat_ofNat, Nat.mod_eq_of_lt hlt, ofNat_leNat_div _ k (hlen.symm ▸ hk), beBytes_getElem,
    extractByte_eq]

/-! ## The operations -/

/-- Settles O9: in the defined range the model's rotation and shift are R121's and R122's functions. -/
theorem rotateAndShiftRight : Obligations.RotateAndShiftRight := by
  unfold Obligations.RotateAndShiftRight
  refine ⟨fun x n s => ⟨rotr32 x n, rfl, fun hpos hlt i hi => ?rotr32⟩,
    fun x n s => ⟨rotr64 x n, rfl, fun hpos hlt i hi => ?rotr64⟩,
    fun x n s => ⟨shr32 x n, rfl, fun _ hlt => ?shr32⟩, fun x n s => ⟨shr64 x n, rfl, fun _ hlt => ?shr64⟩⟩
  case rotr32 => rw [rotr32, if_pos ⟨hpos, hlt⟩, getLsbD_rotrBy x hlt hi]
  case rotr64 => rw [rotr64, if_pos ⟨hpos, hlt⟩, getLsbD_rotrBy x hlt hi]
  case shr32 => rw [shr32, if_pos hlt, toNat_shrBy]
  case shr64 => rw [shr64, if_pos hlt, toNat_shrBy]

/-- Settles O10: each row of the lists is one sigma, and the two shapes of the rules hold at every width. -/
theorem sigmaFunctionsBitwise : Obligations.SigmaFunctionsBitwise := by
  unfold Obligations.SigmaFunctionsBitwise
  refine ⟨?big32, ?big64, ?small32, ?small64⟩
  case big32 =>
    rintro f a b c (_ | ⟨_, _ | ⟨_, ⟨⟩⟩⟩) x s
    · exact ⟨bsig0x32 x, rfl, fun _ => getLsbD_rotrBy_xor_rotrBy x (by decide) (by decide) (by decide)⟩
    · exact ⟨bsig1x32 x, rfl, fun _ => getLsbD_rotrBy_xor_rotrBy x (by decide) (by decide) (by decide)⟩
  case big64 =>
    rintro f a b c (_ | ⟨_, _ | ⟨_, ⟨⟩⟩⟩) x s
    · exact ⟨bsig0x64 x, rfl, fun _ => getLsbD_rotrBy_xor_rotrBy x (by decide) (by decide) (by decide)⟩
    · exact ⟨bsig1x64 x, rfl, fun _ => getLsbD_rotrBy_xor_rotrBy x (by decide) (by decide) (by decide)⟩
  case small32 =>
    rintro f a b c (_ | ⟨_, _ | ⟨_, ⟨⟩⟩⟩) x s
    · exact ⟨ssig0x32 x, rfl, fun _ => getLsbD_rotrBy_xor_shrBy x _ (by decide) (by decide)⟩
    · exact ⟨ssig1x32 x, rfl, fun _ => getLsbD_rotrBy_xor_shrBy x _ (by decide) (by decide)⟩
  case small64 =>
    rintro f a b c (_ | ⟨_, _ | ⟨_, ⟨⟩⟩⟩) x s
    · exact ⟨ssig0x64 x, rfl, fun _ => getLsbD_rotrBy_xor_shrBy x _ (by decide) (by decide)⟩
    · exact ⟨ssig1x64 x, rfl, fun _ => getLsbD_rotrBy_xor_shrBy x _ (by decide) (by decide)⟩

/-- Settles O11: addition as numbers, choice and majority bit by bit. -/
theorem addChoiceMajority : Obligations.AddChoiceMajority := by
  unfold Obligations.AddChoiceMajority
  exact ⟨fun x y s => ⟨addWords x y, rfl, toNat_addWords x y⟩, fun x y s => ⟨addWords x y, rfl, toNat_addWords x y⟩,
    fun x y z s => ⟨chWords x y z, rfl, fun _ => getLsbD_chWords x y z⟩,
    fun x y z s => ⟨chWords x y z, rfl, fun _ => getLsbD_chWords x y z⟩,
    fun x y z s => ⟨majWords x y z, rfl, fun _ _ => getLsbD_majWords x y z⟩,
    fun x y z s => ⟨majWords x y z, rfl, fun _ _ => getLsbD_majWords x y z⟩⟩

/-- Settles O12: both swaps are the general reversal, of 4 and of 8 bytes. -/
theorem byteSwapReversesBytes : Obligations.ByteSwapReversesBytes := by
  unfold Obligations.ByteSwapReversesBytes
  exact ⟨fun x s => ⟨bswap32 x, rfl, fun _ => extractByte_leNat_beBytes (n := 4) x⟩,
    fun x s => ⟨bswap64 x, rfl, fun _ => extractByte_leNat_beBytes (n := 8) x⟩⟩

end Machine

end Sys2Proof
end

section
/-! PROOF. VariantTable (41_variant_table.md R150 to R163): the rows `VLOOKUP` returns, and the constants as integer roots. A root
with `W` bits after the point is the integer root of the number scaled by `2 ^ W`, so one general fact about integer roots leaves a
comparison of each stored word with `rootFraction`. -/

namespace Sys2Proof.Machine

/-! ## Looking up a variant (R150, R152) -/

theorem exec_vlookup_of_some {name : BitVec 3} {w64 : Bool} {v : Variant} (s : State) (h : lookupVariant name w64 = some v) :
    exec (.vlookup name w64) s = .next (s.returning (.params (paramsOf v))) := by
  show execVlookup name w64 s = _
  simp only [execVlookup, h, State.answer_eq]

theorem exec_vlookup_of_none {name : BitVec 3} {w64 : Bool} (s : State) (h : lookupVariant name w64 = none) :
    exec (.vlookup name w64) s = .next (s.withEng (s.eng.enterError .unknownVariant)) := by
  show execVlookup name w64 s = _
  simp only [execVlookup, h, State.raise_eq]

/-- `VLOOKUP` by the number of its NAME code, as R152 lists it. -/
theorem exec_vlookup_of_code {name : BitVec 3} {w64 : Bool} {code : Nat} {v : Variant} (s : State) (hcode : name.toNat = code)
    (h : lookupVariant (BitVec.ofNat 3 code) w64 = some v) :
    exec (.vlookup name w64) s = .next (s.returning (.params (paramsOf v))) := by
  subst hcode
  rw [BitVec.ofNat_toNat, BitVec.setWidth_eq] at h
  exact exec_vlookup_of_some s h

/-- Settles O13: each row of R152 is `paramsOf` of its variant, and the pairs not listed name none. -/
theorem variantLookup : Obligations.VariantLookup := by
  unfold Obligations.VariantLookup
  intro name w64 s
  refine ⟨fun v wd b nr lf nw dl h0 hrow => ?listed,
    fun hpair => exec_vlookup_of_none s (lookupVariant_of_not_listed name w64 hpair)⟩
  simp only [List.mem_cons, Prod.mk.injEq, List.not_mem_nil, or_false] at hrow
  obtain hrow | hrow | hrow | hrow | hrow | hrow := hrow
  all_goals
    obtain ⟨hcode, rfl, rfl, rfl, rfl, rfl, rfl, rfl, rfl, rfl⟩ := hrow
    exact exec_vlookup_of_code s hcode rfl

/-! ## Constants as leading bits of roots (R162) -/

/-- The first 80 primes; the round constants take them in order. -/
def roundPrimes : List Nat :=
  [2, 3, 5, 7, 11, 13, 17, 19, 23, 29, 31, 37, 41, 43, 47, 53, 59, 61, 67, 71] ++
  [73, 79, 83, 89, 97, 101, 103, 107, 109, 113, 127, 131, 137, 139, 149, 151, 157, 163, 167, 173] ++
  [179, 181, 191, 193, 197, 199, 211, 223, 227, 229, 233, 239, 241, 251, 257, 263, 269, 271, 277, 281] ++
  [283, 293, 307, 311, 313, 317, 331, 337, 347, 349, 353, 359, 367, 373, 379, 383, 389, 397, 401, 409]

/-- The first `W` bits of the fractional part of the `e`-th root of `p`. -/
def rootFraction (e W p : Nat) : Nat := Nat.nthRoot e (p * 2 ^ (e * W)) % 2 ^ W

/-- `rootFraction` has `W` bits and, with some integral part `n`, brackets the root (R162). -/
theorem rootFraction_spec {e : Nat} (he : e ≠ 0) (W p : Nat) : rootFraction e W p < 2 ^ W ∧ ∃ n,
    (n * 2 ^ W + rootFraction e W p) ^ e ≤ p * 2 ^ (e * W) ∧ p * 2 ^ (e * W) < (n * 2 ^ W + rootFraction e W p + 1) ^ e := by
  refine ⟨Nat.mod_lt _ (Nat.two_pow_pos W), Nat.nthRoot e (p * 2 ^ (e * W)) / 2 ^ W, ?_⟩
  rw [rootFraction, Nat.div_add_mod']
  exact ⟨Nat.pow_nthRoot_le (.inl he), Nat.lt_pow_nthRoot_add_one he _⟩

/-- The tables of R159 and R160, entry by entry. -/
theorem roundConstant_toNat (wd : Width) : ∀ t < roundCount wd, ∀ p ∈ roundPrimes[t]?,
    (roundConstant wd t).toNat = rootFraction 3 wd.bits p := by
  cases wd <;> decide +kernel

theorem exec_kconst (t : BitVec 7) (s : State) :
    exec (.kconst t) s = .next (s.returning (kconstOutput s.eng.width t)) := rfl

theorem kconst_of_lt {wd : Width} {t : BitVec 7} (h : t.toNat < roundCount wd) : kconst wd t = roundConstant wd t.toNat := by
  rw [kconst, if_pos h]

/-- The vectors of R154, R156 and R155, word by word. -/
theorem iv_toNat : ∀ row ∈ [(Variant.v256, 32, [2, 3, 5, 7, 11, 13, 17, 19]), (.v512, 64, [2, 3, 5, 7, 11, 13, 17, 19]),
    (.v384, 64, [23, 29, 31, 37, 41, 43, 47, 53])], ∀ i : Fin 8, ∀ p ∈ row.2.2[i.val]?,
      (iv row.1)[i].toNat = rootFraction 2 row.2.1 p := by
  decide +kernel

theorem iv_v224_toNat : ∀ i : Fin 8, (iv .v224)[i].toNat = (iv .v384)[i].toNat % 2 ^ 32 := by decide

/-- Settles O14: each constant is the `rootFraction` of its prime. -/
theorem constantsAreRootsOfPrimes : Obligations.ConstantsAreRootsOfPrimes := by
  unfold Obligations.ConstantsAreRootsOfPrimes
  refine ⟨fun s t => ⟨kconst s.eng.width t, ?answer, fun p hp ht => ?round⟩, fun name W primes hrow i p hp => ?vector,
    iv_v224_toNat⟩
  case answer =>
    rw [exec_kconst]
    cases s.eng.width <;> rfl
  case round =>
    rw [kconst_of_lt ht, roundConstant_toNat _ _ ht p hp]
    exact rootFraction_spec (by decide) _ p
  case vector =>
    rw [iv_toNat _ hrow i p hp]
    exact rootFraction_spec (by decide) W p

end Sys2Proof.Machine
end

section
/-! PROOF. BlockAssembler (42_block_assembler.md R170 to R184): which block operation `BA.NEXT` performs, the bytes each writes to
`BLK`, and the words `BA.NORM` reads there. -/

namespace Sys2Proof.Machine

/-! ## A block operation that is enabled (R171 to R180) -/

theorem exec_blockOp_of_selected {s : State} {op : BlockOp} (h : s.eng.selectBlockOp = op)
    (hready : op = .inject ∨ s.eng.need ≤ s.eng.srcAvail) :
    exec op.instr s = .next (s.withEng (s.eng.blockStep op)) := by
  rw [exec_blockOp]
  exact State.actIf_true _ (by simpa [Engine.blockOpEnabled, Engine.sourceReady, h] using hready)

/-- The table of R171, as instructions. -/
theorem Engine.selectBlockOp_instr (e : Engine) :
    e.selectBlockOp.instr = if e.injv then .baInject else if (e.blockSize : Int) ≤ e.remaining then .baFull
      else if e.remaining < 0 then .baLenonly
      else if (e.lenField : Int) ≤ e.blockSize - (e.remaining + 1) then .baFinal else .baPadonly := by
  simp only [selectBlockOp, lengthFits, decide_eq_true_eq, apply_ite BlockOp.instr]
  rfl

/-- R171 waits where the source is short of `need`; an injected block needs none. -/
theorem Engine.sourceReady_iff (e : Engine) :
    (e.sourceReady = true) ↔ min (max e.remaining 0) e.blockSize ≤ (e.srcAvail : Int) := by
  rw [← need_cast, Int.ofNat_le, sourceReady, decide_eq_true_eq]

/-- Settles O16: the selected operation is enabled where `BA.NEXT` is, and `BA.NEXT` adds the phase. -/
theorem nextBlockSelectsByRemaining : Obligations.NextBlockSelectsByRemaining := by
  unfold Obligations.NextBlockSelectsByRemaining
  intro s remaining hr
  obtain rfl : remaining = s.eng.remaining := hr
  refine ⟨fun hstage hphase hready => ?selects, fun hinj hshort => ?waits, fun hphase => ?elsewhere⟩
  case selects =>
    have hready : s.eng.injv = true ∨ s.eng.sourceReady = true := hready.imp_right s.eng.sourceReady_iff.2
    have hat : s.eng.atPhase .assemble = true := Engine.atPhase_iff.2 ⟨(Stage.isRun_iff _).2 hstage, hphase⟩
    refine ⟨s.withEng (s.eng.blockStep s.eng.selectBlockOp), ?_, ?_⟩
    · rw [← Engine.selectBlockOp_instr]
      exact exec_blockOp_of_selected rfl (hready.imp Engine.select_inject.2 of_decide_eq_true)
    · exact State.actIf_true _ (by simpa [Engine.nextEnabled, hat] using hready)
  case waits =>
    have hready : s.eng.sourceReady = false := Bool.eq_false_iff.2 fun h => hshort.not_ge (s.eng.sourceReady_iff.1 h)
    exact State.actIf_false _ (by simp [Engine.nextEnabled, hinj, hready])
  case elsewhere => exact exec_runStep_of_phase_ne (by simp [runSteps]) hphase

/-! ## The bytes of a block -/

section Overwrite

variable {n i : Nat} {buf : Vector Byte n} {l : List Byte} {b : Byte}

theorem overwrite_getElem_of_getElem? (hi : i < n) (h : l[i]? = some b) : (overwrite buf l)[i] = b := by
  rw [overwrite_get, List.getD_eq_getElem?_getD, h, Option.getD_some]

theorem getElem?_eq_some_overwrite (hi : i < n) (h : i < l.length) : l[i]? = some (overwrite buf l)[i] := by
  rw [overwrite_getElem_of_getElem? hi (List.getElem?_eq_getElem h), List.getElem?_eq_getElem h]

theorem overwrite_getElem_of_length_le (hi : i < n) (h : l.length ≤ i) : (overwrite buf l)[i] = buf[i] := by
  rw [overwrite_get, List.getD_eq_default _ _ h]

end Overwrite

/-- Data bytes, 0x80, `k` zeros and a tail: the shape of the blocks in which the data end (R177, R179). -/
def paddedBytes (data : List Byte) (k : Nat) (tail : List Byte) : List Byte :=
  data ++ [0x80#8] ++ List.replicate k 0x00#8 ++ tail

section Padded

variable {data tail : List Byte} {k n i : Nat}

theorem paddedBytes_length : (paddedBytes data k tail).length = data.length + 1 + k + tail.length := by
  simp only [paddedBytes, List.length_append, List.length_singleton, List.length_replicate]

theorem paddedBytes_data (h : i < data.length) : (paddedBytes data k tail)[i]? = data[i]? := by
  simp [paddedBytes, List.getElem?_append_left h]

theorem paddedBytes_mark : (paddedBytes data k tail)[data.length]? = some 0x80#8 := by simp [paddedBytes]

theorem paddedBytes_zero (hlo : data.length < i) (hhi : i < data.length + 1 + k) :
    (paddedBytes data k tail)[i]? = some 0x00#8 := by
  rw [paddedBytes, List.getElem?_append_left (by simp; omega), List.getElem?_append_right (by simp; omega),
    List.getElem?_replicate_of_lt (by simp; omega)]

theorem paddedBytes_tail (h : data.length + 1 + k ≤ i) :
    (paddedBytes data k tail)[i]? = tail[i - (data.length + 1 + k)]? := by
  rw [paddedBytes, List.getElem?_append_right (by simpa [add_assoc, add_comm 1 k] using h)]
  simp only [List.length_append, List.length_singleton, List.length_replicate]

/-- What a buffer holds after a padded block: the data, the mark and the zeros at their places. -/
theorem overwrite_paddedBytes (buf : Vector Byte n) (i : Fin n) :
    (i.val < data.length → data[i.val]? = some (overwrite buf (paddedBytes data k tail))[i]) ∧
    (i.val = data.length → (overwrite buf (paddedBytes data k tail))[i] = 0x80#8) ∧
    (data.length < i.val → i.val < data.length + 1 + k → (overwrite buf (paddedBytes data k tail))[i] = 0x00#8) := by
  refine ⟨fun h => ?data, fun h => ?mark, fun hlo hhi => ?zero⟩
  case data =>
    rw [← paddedBytes_data (k := k) (tail := tail) h]
    exact getElem?_eq_some_overwrite i.isLt (by rw [paddedBytes_length]; omega)
  case mark => exact overwrite_getElem_of_getElem? i.isLt (by rw [h, paddedBytes_mark])
  case zero => exact overwrite_getElem_of_getElem? i.isLt (paddedBytes_zero hlo hhi)

end Padded

namespace Engine

theorem finalBytes_eq (e : Engine) :
    e.finalBytes = paddedBytes (e.srcBytes e.tailBytes) (e.blockSize - 9 - e.tailBytes) e.lengthField := rfl

theorem padBytes_eq (e : Engine) :
    e.padBytes = paddedBytes (e.srcBytes e.tailBytes) (e.blockSize - 1 - e.tailBytes) [] := by
  simp [padBytes, paddedBytes]

/-! ## The length field (R178) -/

theorem lengthField_length (e : Engine) : e.lengthField.length = 8 := beBytes_length 8 _

theorem lengthField_getElem? (e : Engine) {j : Nat} (h : j < 8) :
    e.lengthField[j]? = some (BitVec.ofNat 8 (e.total.toNat * 8 % 2 ^ 64 / 256 ^ (7 - j))) := by
  have hlt : j < e.lengthField.length := e.lengthField_length.symm ▸ h
  rw [List.getElem?_eq_getElem hlt]
  exact congrArg some (beBytes_getElem 8 _ j hlt)

/-- A block whose last 8 bytes are the length field holds it there, most significant byte first. -/
theorem overwrite_lengthField_toNat (e : Engine) {l : List Byte} {i : Fin 128} (buf : Vector Byte 128)
    (hlo : e.blockSize - 8 ≤ i.val) (hhi : i.val < e.blockSize)
    (h : l[i.val]? = e.lengthField[i.val - (e.blockSize - 8)]?) :
    (overwrite buf l)[i].toNat = e.total.toNat * 8 % 2 ^ 64 / 256 ^ (e.blockSize - 1 - i.val) % 256 := by
  have hB := e.blockSize_bounds.1
  have hpos : 7 - (i.val - (e.blockSize - 8)) = e.blockSize - 1 - i.val := by omega
  rw [lengthField_getElem? e (by omega), hpos] at h
  rw [Fin.getElem_fin, overwrite_getElem_of_getElem? i.isLt h, BitVec.toNat_ofNat]

theorem eight_le_lenField (e : Engine) : 8 ≤ e.lenField := by
  unfold lenField; cases e.width <;> decide

/-! ## The source bytes of a block (R74, R175) -/

theorem srcBytes_length_of_le {e : Engine} {n : Nat} (hn : n ≤ e.srcAvail) (h64 : e.src = .innerd → e.srcLen.toNat ≤ 64) :
    (e.srcBytes n).length = n := by
  by_cases hi : e.src = .innerd
  · exact e.srcBytes_length n hn (h64 hi)
  · exact e.srcBytes_length_external n hn hi

theorem tailBytes_of_remaining {e : Engine} {n : Nat} (h : (n : Int) = e.remaining) : e.tailBytes = n := by
  rw [tailBytes, ← h, Int.toNat_natCast]

theorem emitBlock_srcTaken (e : Engine) (n : Nat) (l : List Byte) (b : Bool) :
    (e.srcTaken n).emitBlock l b = { e.srcTaken n with
      blk := overwrite e.blk l, term := b, consumed := e.consumed + BitVec.ofNat 66 e.blockSize } := by
  simp only [emitBlock, srcTaken_blk, srcTaken_consumed, srcTaken_blockSize]

theorem inject_eq (e : Engine) : e.inject = { e with
    blk := overwrite e.blk (slice e.iblk 0 e.blockSize), injv := false, term := false
    total := e.total + BitVec.ofNat 65 e.blockSize, consumed := e.consumed + BitVec.ofNat 66 e.blockSize } := by
  simp only [inject, emitBlock]

end Engine

/-! ## The block operations -/

/-- Settles O17: the first `B` bytes of `BLK` are a slice of `IBLK`. -/
theorem injectEmitsInjectedBlock : Obligations.InjectEmitsInjectedBlock := by
  unfold Obligations.InjectEmitsInjectedBlock
  intro s hinj
  have hlen : (slice s.eng.iblk 0 s.eng.blockSize).length = s.eng.blockSize := by
    rw [slice_length, Nat.sub_zero, min_eq_left s.eng.blockSize_bounds.2.1]
  refine ⟨overwrite s.eng.blk (slice s.eng.iblk 0 s.eng.blockSize), ?_, fun i => ?_⟩
  · rw [← Engine.inject_eq]
    exact exec_blockOp_of_selected (op := .inject) (Engine.select_inject.2 hinj) (.inl rfl)
  · split
    · next hi =>
      refine overwrite_getElem_of_getElem? i.isLt ?_
      rw [slice_getElem? _ hi, Nat.zero_add, Vector.getElem?_eq_getElem i.isLt]
      rfl
    · next hi => exact overwrite_getElem_of_length_le i.isLt (by omega)

/-- Settles O18: the first `B` bytes of `BLK` are the source's next `B`. -/
theorem fullCopiesOneBlock : Obligations.FullCopiesOneBlock := by
  unfold Obligations.FullCopiesOneBlock
  intro s hinj hrem havail h64
  have hlen : (s.eng.srcBytes s.eng.blockSize).length = s.eng.blockSize := Engine.srcBytes_length_of_le havail h64
  refine ⟨overwrite s.eng.blk (s.eng.srcBytes s.eng.blockSize), ?_, fun i => ?_⟩
  · rw [← Engine.emitBlock_srcTaken]
    exact exec_blockOp_of_selected (op := .full) (Engine.select_full.2 ⟨hinj, hrem⟩) (.inr ((min_le_right _ _).trans havail))
  · split
    · next hi => exact getElem?_eq_some_overwrite i.isLt (by omega)
    · next hi => exact overwrite_getElem_of_length_le i.isLt (by omega)

/-- A block of the final region has its source bytes when the `n` that remain are there. -/
theorem Engine.need_le_srcAvail_of_remaining {e : Engine} {n : Nat} (h : (n : Int) = e.remaining) (hn : n ≤ e.srcAvail) :
    e.need ≤ e.srcAvail := by
  rw [need, ← h, Int.toNat_natCast]
  exact (min_le_left _ _).trans hn

/-- Settles O19: the block is a padded one whose tail is the length field. -/
theorem finalPadsAndEncodesLength : Obligations.FinalPadsAndEncodesLength := by
  unfold Obligations.FinalPadsAndEncodesLength
  intro s n hinj hrem hfits havail h64
  have hrem : (n : Int) = s.eng.remaining := hrem
  have hn : s.eng.tailBytes = n := Engine.tailBytes_of_remaining hrem
  have hlen : (s.eng.srcBytes n).length = n := Engine.srcBytes_length_of_le havail h64
  have h8 := s.eng.eight_le_lenField
  refine ⟨overwrite s.eng.blk s.eng.finalBytes, ?_, fun i => ?_⟩
  · rw [← Engine.emitBlock_srcTaken, ← hn]
    exact exec_blockOp_of_selected (op := .final)
      (Engine.select_final.2 ⟨hinj, by omega, by omega, by omega⟩) (.inr (Engine.need_le_srcAvail_of_remaining hrem havail))
  · rw [Engine.finalBytes_eq, hn]
    obtain ⟨hdata, hmark, hzero⟩ := overwrite_paddedBytes (data := s.eng.srcBytes n) (k := s.eng.blockSize - 9 - n)
      (tail := s.eng.lengthField) s.eng.blk i
    rw [hlen] at hdata hmark hzero
    refine ⟨hdata, hmark, fun hlo hhi => hzero hlo (by omega), fun hlo hhi => ?length, fun hi => ?above⟩
    case length =>
      refine s.eng.overwrite_lengthField_toNat s.eng.blk hlo hhi ?_
      rw [paddedBytes_tail (by omega), hlen]
      congr 2
      omega
    case above =>
      exact overwrite_getElem_of_length_le i.isLt (by rw [paddedBytes_length, hlen, Engine.lengthField_length]; omega)

/-- Settles O20: the block is a padded one without a tail. -/
theorem padOnlyEndsWithZeros : Obligations.PadOnlyEndsWithZeros := by
  unfold Obligations.PadOnlyEndsWithZeros
  intro s n hinj hrem hlt hfull havail h64
  have hrem : (n : Int) = s.eng.remaining := hrem
  have hn : s.eng.tailBytes = n := Engine.tailBytes_of_remaining hrem
  have hlen : (s.eng.srcBytes n).length = n := Engine.srcBytes_length_of_le havail h64
  refine ⟨overwrite s.eng.blk s.eng.padBytes, ?_, fun i => ?_⟩
  · rw [← Engine.emitBlock_srcTaken, ← hn]
    exact exec_blockOp_of_selected (op := .padOnly)
      (Engine.select_padOnly.2 ⟨hinj, by omega, by omega, by omega⟩) (.inr (Engine.need_le_srcAvail_of_remaining hrem havail))
  · rw [Engine.padBytes_eq, hn]
    obtain ⟨hdata, hmark, hzero⟩ := overwrite_paddedBytes (data := s.eng.srcBytes n) (k := s.eng.blockSize - 1 - n)
      (tail := []) s.eng.blk i
    rw [hlen] at hdata hmark hzero
    exact ⟨hdata, hmark, fun hlo hhi => hzero hlo (by omega), fun hi => overwrite_getElem_of_length_le i.isLt
      (by rw [paddedBytes_length, hlen, List.length_nil]; omega)⟩

/-- Settles O21: zeros and then the length field fill the block. -/
theorem lenOnlyCarriesLengthOnly : Obligations.LenOnlyCarriesLengthOnly := by
  unfold Obligations.LenOnlyCarriesLengthOnly
  intro s hinj hrem
  have hrem : s.eng.remaining < 0 := hrem
  have hB := s.eng.blockSize_bounds.1
  have hneed : s.eng.need = 0 := by rw [Engine.need, Int.toNat_of_nonpos hrem.le, Nat.zero_min]
  refine ⟨overwrite s.eng.blk s.eng.lenOnlyBytes,
    exec_blockOp_of_selected (op := .lenOnly) (Engine.select_lenOnly.2 ⟨hinj, by omega, hrem⟩) (.inr (by omega)),
    fun i => ⟨fun hi => ?zero, fun hlo hhi => ?length, fun hi => ?above⟩⟩
  case zero =>
    refine overwrite_getElem_of_getElem? i.isLt ?_
    rw [Engine.lenOnlyBytes, List.getElem?_append_left (by simpa using hi), List.getElem?_replicate_of_lt hi]
  case length =>
    refine s.eng.overwrite_lengthField_toNat s.eng.blk hlo hhi ?_
    rw [Engine.lenOnlyBytes, List.getElem?_append_right (by simpa using hlo), List.length_replicate]
  case above =>
    refine overwrite_getElem_of_length_le i.isLt ?_
    rw [Engine.lenOnlyBytes, List.length_append, List.length_replicate, Engine.lengthField_length]
    omega

/-! ## `BA.NORM` (R68, R181) -/

/-- The digits of a big-endian number to base 256 are its bytes (R17). -/
theorem getElem?_eq_beNat_digit {bs : List Byte} {n k : Nat} (hlen : bs.length = n) (h : k < n) :
    ∃ b, bs[k]? = some b ∧ beNat bs / 256 ^ (n - 1 - k) % 256 = b.toNat := by
  subst hlen
  have hdigit := congrArg BitVec.toNat (ofNat_leNat_div bs.reverse (bs.length - 1 - k) (by rw [List.length_reverse]; omega))
  have hk : bs.length - 1 - (bs.length - 1 - k) = k := by omega
  rw [BitVec.toNat_ofNat, List.getElem_reverse] at hdigit
  simp only [hk] at hdigit
  exact ⟨bs[k], List.getElem?_eq_getElem h, hdigit⟩

/-- A word of the block lies within it. -/
theorem word_end_le (wd : Width) {j : Nat} (hj : j < 16) : j * wd.bytes + wd.bytes ≤ 128 := by
  cases wd <;> simp only [Width.bytes] <;> omega

theorem messageWord_slice_length (wd : Width) (blk : Vector Byte 128) {j : Nat} (hj : j < 16) :
    (slice blk (j * wd.bytes) wd.bytes).length = wd.bytes := by
  have := word_end_le wd hj
  rw [slice_length]
  omega

theorem messageWord_toNat (wd : Width) (blk : Vector Byte 128) (j : Nat) :
    (messageWord wd blk j).toNat = beNat (slice blk (j * wd.bytes) wd.bytes) := by
  have hlt := beNat_lt (slice blk (j * wd.bytes) wd.bytes)
  have hle : 256 ^ (slice blk (j * wd.bytes) wd.bytes).length ≤ 2 ^ 64 := by
    refine (Nat.pow_le_pow_right (by decide) (?_ : _ ≤ 8)).trans (by decide)
    rw [slice_length]
    exact (min_le_left _ _).trans (by cases wd <;> decide)
  rw [messageWord, BitVec.toNat_ofNat, Nat.mod_eq_of_lt (hlt.trans_le hle)]

theorem exec_baNorm (s : State) :
    exec .baNorm s = .next (s.returning (.words (messageWords s.eng.width s.eng.blk))) := rfl

/-- Settles O22: word `j` is the number of a slice of `WB` bytes. -/
theorem normReadsWordsBigEndian : Obligations.NormReadsWordsBigEndian := by
  unfold Obligations.NormReadsWordsBigEndian
  intro s
  refine ⟨messageWords s.eng.width s.eng.blk, exec_baNorm s, by simp [messageWords], fun j hj => ?_⟩
  have hlen := messageWord_slice_length s.eng.width s.eng.blk hj
  refine ⟨messageWord s.eng.width s.eng.blk j, by simp [messageWords, hj], ?bound, fun k hk => ?byte⟩
  case bound => simpa only [messageWord_toNat, hlen] using beNat_lt (slice s.eng.blk (j * s.eng.width.bytes) s.eng.width.bytes)
  case byte =>
    rw [messageWord_toNat, ← slice_getElem? s.eng.blk hk]
    exact getElem?_eq_beNat_digit hlen hk

end Sys2Proof.Machine
end

section
/-! PROOF. The busy engine never stalls (R174, R262, R270): at every pair of R262 its candidate step is enabled and moves
(`STAGE`, `PHASE`), or it waits for bytes that the host is asked for and the window has room for. -/

namespace Sys2Proof.Machine

/-! ## The engine's own step (R262) -/

theorem step_of_candidate {s : State} {i : Instr} (hq : s.sched = []) (hc : s.eng.candidate = some i) : step s = exec i s := by
  simp only [step, nextStep, engineTurn, hq, hc]

theorem Engine.candidate_of_atPhase {e : Engine} {i : Instr} {p : Phase} (hi : (i, p) ∈ runSteps) (h : e.atPhase p = true) :
    e.candidate = some i := by
  obtain ⟨hr, rfl⟩ := atPhase_iff.1 h
  simp only [runSteps, List.mem_cons, Prod.mk.injEq, List.not_mem_nil, or_false] at hi
  unfold candidate
  cases hs : e.stage with
  | derivekey | inner | outer | plain => obtain ⟨rfl, hp⟩ | ⟨rfl, hp⟩ | ⟨rfl, hp⟩ | ⟨rfl, hp⟩ := hi <;> simp only [hp]
  | idle | buildpads | done | error => simp [hs, Stage.isRun] at hr

theorem legalPair_keycopy {st : Stage} (h : legalPair st .keycopy = true) : st = .derivekey := by
  cases st with
  | derivekey => rfl
  | idle | buildpads | inner | outer | done | plain | error => cases h

theorem legalPair_buildpads {p : Phase} (h : legalPair .buildpads p = true) : p = .init := by
  cases p with
  | init => rfl
  | assemble | compress | format | keycopy => cases h

theorem Engine.stage_of_busy_of_not_run {e : Engine} (hb : e.busy = true) (hr : e.stage.isRun = false) :
    e.stage = .buildpads := by
  cases hs : e.stage with
  | buildpads => rfl
  | idle | done | error => simp [busy, hs] at hb
  | derivekey | inner | outer | plain => simp [hs, Stage.isRun] at hr

/-- The pairs of R262 in which the engine is busy. -/
theorem Engine.busy_pair_cases {e : Engine} (hb : e.busy = true) (hpair : legalPair e.stage e.phase = true) :
    (e.stage = .derivekey ∧ e.phase = .keycopy) ∨ (e.stage = .buildpads ∧ e.phase = .init) ∨
      e.atPhase .init = true ∨ e.atPhase .assemble = true ∨ e.atPhase .compress = true ∨ e.atPhase .format = true := by
  cases hr : e.stage.isRun with
  | false =>
    have hs := stage_of_busy_of_not_run hb hr
    exact .inr (.inl ⟨hs, legalPair_buildpads (hs ▸ hpair)⟩)
  | true =>
    cases hp : e.phase with
    | keycopy => exact .inl ⟨legalPair_keycopy (hp ▸ hpair), rfl⟩
    | init | assemble | compress | format => simp [atPhase, hr, hp]

/-- `DR.END` hands over to another stage (R261). -/
theorem Engine.runEnd_stage_ne {e : Engine} (hr : e.stage.isRun = true) : e.runEnd.stage ≠ e.stage := by
  cases hs : e.stage with
  | derivekey => simp [runEnd_of_derivekey hs]
  | inner => simp [runEnd_of_inner hs]
  | outer => simp [runEnd_of_last (.inl hs)]
  | plain => simp [runEnd_of_last (.inr hs)]
  | idle | buildpads | done | error => simp [hs, Stage.isRun] at hr

/-! ## Moving and waiting -/

/-- A step that moves the sequencer. -/
def State.MovesOn (s : State) : Prop :=
  ∃ t, step s = .next t ∧ (t.eng.stage, t.eng.phase) ≠ (s.eng.stage, s.eng.phase)

/-- The engine asks the host for bytes, and the window has room for them (R42, R174). -/
def Engine.AsksForBytes (e : Engine) : Prop := e.req ≠ 0#2 ∧ 0 < e.want ∧ e.stage ∈ [Stage.derivekey, .inner, .plain]

theorem State.movesOn_of_enabled {s : State} {i : Instr} {b : Bool} {e : Engine} (hq : s.sched = [])
    (hc : s.eng.candidate = some i) (hexec : exec i s = s.actIf b e) (hb : b = true)
    (hne : (e.stage, e.phase) ≠ (s.eng.stage, s.eng.phase)) : s.MovesOn :=
  ⟨s.withEng e, by rw [step_of_candidate hq hc, hexec, State.actIf_true e hb], hne⟩

theorem State.step_of_not_enabled {s : State} {i : Instr} {b : Bool} {e : Engine} (hq : s.sched = [])
    (hc : s.eng.candidate = some i) (hexec : exec i s = s.actIf b e) (hb : b = false) : step s = .next s := by
  rw [step_of_candidate hq hc, hexec, State.actIf_false e hb]

/-- A stage that reads the host's stream asks for bytes while some are to come and the window has room. -/
theorem Engine.asksForBytes_of_room {e : Engine} (hsrc : e.SourceSelected) (hs : e.stage ∈ [Stage.derivekey, .inner, .plain])
    (hlt : e.rcvd.toNat < e.srcLen.toNat) (hroom : e.ra.length < Config.raBytes) : e.AsksForBytes := by
  have hreq : e.req ≠ 0#2 := by
    simp only [List.mem_cons, List.not_mem_nil, or_false] at hs
    obtain h | h | h := hs <;> simp only [SourceSelected, h] at hsrc <;> simp [req, h, ← hsrc.2, hlt]
  exact ⟨hreq, want_pos.2 ⟨hreq, hroom, hlt⟩, hs⟩

theorem Stage.mem_external_of_isRun {st : Stage} (hr : st.isRun = true) (ho : st ≠ .outer) :
    st ∈ [Stage.derivekey, .inner, .plain] := by
  cases st with
  | derivekey | inner | plain => decide
  | outer => exact absurd rfl ho
  | idle | buildpads | done | error => cases hr

/-- A key that is copied fits the window: while it is not all there, more of it is asked for (R237). -/
theorem Engine.Inv.asksForBytes_of_keycopy {e : Engine} (he : e.Inv) (hs : e.stage = .derivekey) (hp : e.phase = .keycopy)
    (hshort : e.srcAvail < e.klen.toNat) : e.AsksForBytes := by
  obtain ⟨-, hklen, hcount⟩ := (runInv_keycopy hp).1 (he.run (by simp [hs, Stage.isRun]))
  have hsel := he.source
  obtain ⟨hkey, hlen⟩ : e.src = .key ∧ e.srcLen = e.klen := by simpa only [SourceSelected, hs] using hsel
  rw [srcAvail_of_external (.inl hkey)] at hshort
  have hB := e.blockSize_bounds.2.1
  have hcap := Config.raBytes_ge
  exact asksForBytes_of_room hsel (by simp [hs]) (by rw [hlen]; omega) (by omega)

/-- The outer run's source holds every byte its next block takes (R241). -/
theorem Engine.Accounted.need_le_of_innerd {e : Engine} (h : e.Accounted) (hi : e.src = .innerd) (hinj : e.injv = false) :
    e.need ≤ e.srcAvail := by
  obtain ⟨-, hipos, hrun⟩ := (accounted_innerd hi).1 h
  obtain ⟨hcons, htotal⟩ := hrun.resolve_left (by simp [hinj])
  have hrem : e.remaining.toNat = e.srcLen.toNat := by rw [remaining]; omega
  rw [need, hrem, srcAvail_of_innerd hi, hipos]
  exact min_le_left _ _

/-- A host's stream short of a block has bytes to come, and a window with room for a block of them (R172, R174). -/
theorem Engine.Accounted.room_of_short {e : Engine} (h : e.Accounted) (hx : e.External) (hshort : e.srcAvail < e.need) :
    e.rcvd.toNat < e.srcLen.toNat ∧ e.ra.length < Config.raBytes := by
  obtain ⟨-, hbal⟩ := (accounted_external hx).1 h
  have hcap : e.blockSize ≤ Config.raBytes := blockBytes_le_raBytes _
  rw [srcAvail_of_external hx, need] at hshort
  rw [Balanced] at hbal
  omega

theorem Engine.Inv.asksForBytes_of_assemble {e : Engine} (he : e.Inv) (hat : e.atPhase .assemble = true) (hinj : e.injv = false)
    (hshort : e.srcAvail < e.need) : e.AsksForBytes := by
  obtain ⟨hr, hp⟩ := atPhase_iff.1 hat
  have hacc := ((runInv_assemble hp).1 (he.run hr)).1
  obtain ⟨ho, hx⟩ | ⟨-, hi, -⟩ := he.source.of_isRun hr
  · obtain ⟨hlt, hroom⟩ := hacc.room_of_short hx hshort
    exact asksForBytes_of_room he.source (Stage.mem_external_of_isRun hr ho) hlt hroom
  · exact absurd (hacc.need_le_of_innerd hi hinj) hshort.not_ge

/-! ## The two steps that can wait -/

theorem movesOn_or_asks_of_keycopy {s : State} (he : s.eng.Inv) (hq : s.sched = []) (hs : s.eng.stage = .derivekey)
    (hp : s.eng.phase = .keycopy) : s.MovesOn ∨ step s = .next s ∧ s.eng.AsksForBytes := by
  have hc : s.eng.candidate = some .hmKeycopy := by simp only [Engine.candidate, hs, hp]
  cases h : s.eng.keyCopyEnabled with
  | true => exact .inl (State.movesOn_of_enabled hq hc rfl h (by simp [hs]))
  | false =>
    have hshort : s.eng.srcAvail < s.eng.klen.toNat := by simpa [Engine.keyCopyEnabled, hs, hp] using h
    exact .inr ⟨State.step_of_not_enabled hq hc rfl h, he.asksForBytes_of_keycopy hs hp hshort⟩

theorem movesOn_or_asks_of_assemble {s : State} (he : s.eng.Inv) (hq : s.sched = []) (hat : s.eng.atPhase .assemble = true) :
    s.MovesOn ∨ step s = .next s ∧ s.eng.AsksForBytes := by
  have hc : s.eng.candidate = some .baNext := Engine.candidate_of_atPhase (by simp [runSteps]) hat
  cases h : s.eng.nextEnabled with
  | true => exact .inl (State.movesOn_of_enabled hq hc rfl h (by simp [(Engine.atPhase_iff.1 hat).2]))
  | false =>
    obtain ⟨hinj, hshort⟩ : s.eng.injv = false ∧ s.eng.srcAvail < s.eng.need := by
      simpa [Engine.nextEnabled, hat, Engine.sourceReady] using h
    exact .inr ⟨State.step_of_not_enabled hq hc rfl h, he.asksForBytes_of_assemble hat hinj hshort⟩

/-- Settles O57: of the six engine steps two can wait, `HM.KEYCOPY` and `BA.NEXT`, and only for bytes of the host. -/
theorem waitingEngineWantsBytes : Obligations.WaitingEngineWantsBytes := by
  unfold Obligations.WaitingEngineWantsBytes
  intro s he hb hq
  obtain ⟨hs, hp⟩ | ⟨hs, hp⟩ | hat | hat | hat | hat := Engine.busy_pair_cases hb he.pair
  · exact movesOn_or_asks_of_keycopy he hq hs hp
  · have hc : s.eng.candidate = some .hmBuildpads := by simp only [Engine.candidate, hs, hp]
    exact .inl (State.movesOn_of_enabled hq hc rfl (by simp [Engine.buildPadsEnabled, hs, hp]) (by simp [hs]))
  · exact .inl (State.movesOn_of_enabled hq (Engine.candidate_of_atPhase (i := .drInit) (by simp [runSteps]) hat) rfl hat
      (by simp [(Engine.atPhase_iff.1 hat).2]))
  · exact movesOn_or_asks_of_assemble he hq hat
  · exact .inl (State.movesOn_of_enabled hq (Engine.candidate_of_atPhase (i := .ceBlock) (by simp [runSteps]) hat) rfl hat
      (by cases ht : s.eng.term <;> simp [(Engine.atPhase_iff.1 hat).2, ht]))
  · have hne := Engine.runEnd_stage_ne (Engine.atPhase_iff.1 hat).1
    exact .inl (State.movesOn_of_enabled hq (Engine.candidate_of_atPhase (i := .drEnd) (by simp [runSteps]) hat) rfl hat
      fun h => hne (congrArg Prod.fst h))

end Sys2Proof.Machine
end

section
/-! PROOF. CompressionEngine (43_compression_engine.md R200 to R206): the parts of `CE.BLOCK` at both widths, their composition, and
the values the next HashState depends on. -/

namespace Sys2Proof.Machine

/-! ## `CE.LOADW` (R201) -/

/-- The bytes of a message word (R68), as those of the words that `BA.NORM` returns. -/
theorem messageWord_digits (s : State) {j : Nat} (hj : j < 16) :
    (messageWord s.eng.width s.eng.blk j).toNat < 256 ^ s.eng.width.bytes ∧
      ∀ k, k < s.eng.width.bytes → ∃ b, s.eng.blk[j * s.eng.width.bytes + k]? = some b ∧
        (messageWord s.eng.width s.eng.blk j).toNat / 256 ^ (s.eng.width.bytes - 1 - k) % 256 = b.toNat := by
  obtain ⟨m, hm, -, hwords⟩ := normReadsWordsBigEndian s
  cases (exec_baNorm s).symm.trans hm
  obtain ⟨x, hx, hdigits⟩ := hwords j hj
  obtain rfl : messageWord s.eng.width s.eng.blk j = x := by simpa [messageWords, hj] using hx
  exact hdigits

theorem Engine.loadWords_w_of_lt (e : Engine) {j : Nat} (hj : j < 16) :
    e.loadWords.w[j] = messageWord e.width e.blk j := by
  simp [loadWords, hj]

theorem Engine.loadWords_w_of_le (e : Engine) {j : Nat} (h : j < 80) (hj : 16 ≤ j) : e.loadWords.w[j] = e.w[j] := by
  simp [loadWords, hj.not_gt]

theorem exec_ceLoadw (s : State) : exec .ceLoadw s = .next (s.withEng s.eng.loadWords) := rfl

/-- Settles O24: the first 16 entries are message words. -/
theorem loadWordsBigEndian : Obligations.LoadWordsBigEndian := by
  unfold Obligations.LoadWordsBigEndian
  refine fun s => ⟨s.eng.loadWords.w, exec_ceLoadw s, fun j => ⟨fun hj => ?loaded, fun hj => ?kept⟩⟩
  case loaded =>
    rw [Fin.getElem_fin, Engine.loadWords_w_of_lt _ hj]
    exact messageWord_digits s hj
  case kept => exact Engine.loadWords_w_of_le _ j.isLt hj

/-! ## The operations of a round at a width (R15, R208) -/

theorem toNat_addw (wd : Width) (x y : Word) : (addw wd x y).toNat = (x.toNat + y.toNat) % 2 ^ wd.bits := by
  cases wd with
  | w32 =>
    simp only [addw, atWidth2, toNat_addWords, BitVec.toNat_setWidth, Width.bits]
    omega
  | w64 => exact toNat_addWords x y

theorem roundVars_w32 (v : Vars) (k wt : Word) {t1 t2 : BitVec 32}
    (h1 : t1 = v.h.setWidth 32 + bsig1x32 (v.e.setWidth 32) + chWords (v.e.setWidth 32) (v.f.setWidth 32) (v.g.setWidth 32) +
      k.setWidth 32 + wt.setWidth 32)
    (h2 : t2 = bsig0x32 (v.a.setWidth 32) + majWords (v.a.setWidth 32) (v.b.setWidth 32) (v.c.setWidth 32)) :
    roundVars .w32 v k wt =
      ⟨(t1 + t2).setWidth 64, v.a, v.b, v.c, (v.d.setWidth 32 + t1).setWidth 64, v.e, v.f, v.g⟩ := by
  subst h1 h2
  simp [roundVars, addw, bsig0, bsig1, ch, maj, atWidth1, atWidth2, atWidth3, addWords]

/-! ## `CE.SCHED` (R202) -/

theorem scheduleWord_of_lt (w : Vector Word 80) {i : Nat} (h : i < 80) : scheduleWord w i = w[i] := by
  simp [scheduleWord, h]

/-- The right-hand side of R202. -/
def scheduleSum (wd : Width) (w : Vector Word 80) (i : Nat) : Word :=
  addw wd (addw wd (addw wd (scheduleWord w (i - 16)) (ssig0 wd (scheduleWord w (i - 15)))) (scheduleWord w (i - 7)))
    (ssig1 wd (scheduleWord w (i - 2)))

theorem scheduleEntry_eq (wd : Width) (w : Vector Word 80) (i : Nat) :
    scheduleEntry wd w i = w.setIfInBounds i (scheduleSum wd w i) := rfl

theorem scheduleSum_w64 (w : Vector Word 80) {i : Nat} (h : i < 80) :
    scheduleSum .w64 w i = w[i - 16] + ssig0x64 w[i - 15] + w[i - 7] + ssig1x64 w[i - 2] := by
  simp only [scheduleSum, addw, ssig0, ssig1, atWidth1, atWidth2, addWords,
    scheduleWord_of_lt w (Nat.sub_lt_of_lt h)]

theorem scheduleSum_w32 (w : Vector Word 80) {i : Nat} (h : i < 80) :
    scheduleSum .w32 w i = (w[i - 16].setWidth 32 + ssig0x32 (w[i - 15].setWidth 32) + w[i - 7].setWidth 32 +
      ssig1x32 (w[i - 2].setWidth 32)).setWidth 64 := by
  simp [scheduleSum, addw, ssig0, ssig1, atWidth1, atWidth2, addWords, scheduleWord_of_lt w (Nat.sub_lt_of_lt h)]

section Schedule

variable {wd : Width} {w w' : Vector Word 80} {i j n : Nat}

/-- R202 reads earlier entries only. -/
theorem scheduleSum_congr (hi : 0 < i) (h : ∀ j < i, scheduleWord w j = scheduleWord w' j) :
    scheduleSum wd w i = scheduleSum wd w' i := by
  simp only [scheduleSum, h _ (Nat.sub_lt hi (Nat.succ_pos _))]

theorem scheduleWord_scheduleEntry_self (hi : i < 80) : scheduleWord (scheduleEntry wd w i) i = scheduleSum wd w i := by
  simp [scheduleEntry_eq, scheduleWord, hi]

theorem scheduleWord_scheduleEntry_of_ne (h : j ≠ i) : scheduleWord (scheduleEntry wd w i) j = scheduleWord w j := by
  simp [scheduleEntry_eq, scheduleWord, Vector.getElem?_setIfInBounds_ne h.symm]

theorem scheduleWord_expandSchedule_of_notMem {is : List Nat} (h : j ∉ is) :
    scheduleWord (expandSchedule wd w is) j = scheduleWord w j := by
  induction is generalizing w with
  | nil => rfl
  | cons i is ih =>
    exact (ih (List.not_mem_of_not_mem_cons h)).trans (scheduleWord_scheduleEntry_of_ne (List.ne_of_not_mem_cons h))

theorem expandSchedule_succ : expandSchedule wd w (List.range' 16 (n + 1)) =
    scheduleEntry wd (expandSchedule wd w (List.range' 16 n)) (16 + n) := by
  rw [expandSchedule, List.range'_1_concat, List.foldl_append]
  rfl

/-- Computed in increasing order, the entries meet R202 over the resulting schedule: a later entry changes no operand of an
earlier one. -/
theorem expandSchedule_recurrence (hn : 16 + n ≤ 80) (hlo : 16 ≤ i) (hhi : i < 16 + n) :
    scheduleWord (expandSchedule wd w (List.range' 16 n)) i = scheduleSum wd (expandSchedule wd w (List.range' 16 n)) i := by
  induction n with
  | zero => omega
  | succ n ih =>
    rw [expandSchedule_succ]
    have hsum : scheduleSum wd (scheduleEntry wd (expandSchedule wd w (List.range' 16 n)) (16 + n)) i =
        scheduleSum wd (expandSchedule wd w (List.range' 16 n)) i :=
      scheduleSum_congr (by omega) fun j hj => scheduleWord_scheduleEntry_of_ne (by omega)
    rw [hsum]
    obtain rfl | hlt : i = 16 + n ∨ i < 16 + n := by omega
    · exact scheduleWord_scheduleEntry_self (by omega)
    · rw [scheduleWord_scheduleEntry_of_ne hlt.ne, ih (by omega) hlt]

/-- The first 16 entries determine those that R202 computes. -/
theorem expandSchedule_congr (hn : 16 + n ≤ 80) (h : ∀ j < 16, scheduleWord w j = scheduleWord w' j) (hi : i < 16 + n) :
    scheduleWord (expandSchedule wd w (List.range' 16 n)) i = scheduleWord (expandSchedule wd w' (List.range' 16 n)) i := by
  induction i using Nat.strong_induction_on with
  | _ i ih =>
    by_cases hlo : i < 16
    · have hmem : i ∉ List.range' 16 n := by rw [List.mem_range'_1]; omega
      rw [scheduleWord_expandSchedule_of_notMem hmem, scheduleWord_expandSchedule_of_notMem hmem, h i hlo]
    · rw [expandSchedule_recurrence hn (by omega) hi, expandSchedule_recurrence hn (by omega) hi]
      exact scheduleSum_congr (by omega) fun j hj => ih j hj (by omega)

end Schedule

theorem Engine.sixteen_le_rounds (e : Engine) : 16 ≤ e.rounds := by unfold rounds; cases e.width <;> decide

theorem Engine.schedule_w_recurrence (e : Engine) {i : Nat} (h : i < 80) (hlo : 16 ≤ i) (hhi : i < e.rounds) :
    e.schedule.w[i] = scheduleSum e.width e.schedule.w i := by
  have hle := e.rounds_le
  rw [← scheduleWord_of_lt _ h, schedule_w]
  exact expandSchedule_recurrence (by omega) hlo (by omega)

theorem Engine.schedule_w_of_not_computed (e : Engine) {i : Nat} (h : i < 80) (hi : i < 16 ∨ e.rounds ≤ i) :
    e.schedule.w[i] = e.w[i] := by
  have hle := e.sixteen_le_rounds
  rw [← scheduleWord_of_lt _ h, ← scheduleWord_of_lt _ h, schedule_w]
  exact scheduleWord_expandSchedule_of_notMem (by rw [List.mem_range'_1]; omega)

theorem exec_ceSched (s : State) : exec .ceSched s = .next (s.withEng s.eng.schedule) := rfl

theorem Engine.rounds_of_w64 {e : Engine} (h : e.width = .w64) : e.rounds = 80 := by rw [rounds, h]; rfl

theorem Engine.rounds_of_w32 {e : Engine} (h : e.width = .w32) : e.rounds = 64 := by rw [rounds, h]; rfl

/-- Settles O25: the recurrence of the schedule, with R202's sum read at each width. -/
theorem scheduleMeetsRecurrence : Obligations.ScheduleMeetsRecurrence := by
  unfold Obligations.ScheduleMeetsRecurrence
  refine fun s => ⟨s.eng.schedule.w, exec_ceSched s, fun hw i h hlo => ?w64, fun hw i h hlo => ?w32,
    fun i h hi => s.eng.schedule_w_of_not_computed h hi⟩
  case w64 =>
    have hrec := s.eng.schedule_w_recurrence h hlo (Engine.rounds_of_w64 hw ▸ h)
    rwa [hw, scheduleSum_w64 _ h] at hrec
  case w32 =>
    have h80 : i < 80 := by omega
    have hrec := s.eng.schedule_w_recurrence h80 hlo (Engine.rounds_of_w32 hw ▸ h)
    rwa [hw, scheduleSum_w32 _ h80] at hrec

/-! ## `CE.INITV`, `CE.ROUND` and `CE.FOLD` (R203, R204, R205) -/

theorem exec_ceInitv (s : State) : exec .ceInitv s = .next (s.withEng s.eng.initVars) := rfl

theorem exec_ceFold (s : State) : exec .ceFold s = .next (s.withEng s.eng.fold) := rfl

theorem exec_ceRound_of_lt {s : State} (h : s.eng.t.toNat < s.eng.rounds) :
    exec .ceRound s = .next (s.withEng s.eng.round) := State.actIf_true _ (decide_eq_true h)

theorem Engine.round_t_toNat {e : Engine} (h : e.t.toNat < e.rounds) : e.round.t.toNat = e.t.toNat + 1 :=
  roundTimes_t 1 e (h.trans_le e.rounds_le)

theorem Engine.round_eq_of_lt {e : Engine} (h : e.t.toNat < e.rounds) (h80 : e.t.toNat < 80) : e.round = { e with
    vars := roundVars e.width e.vars (roundConstant e.width e.t.toNat) e.w[e.t.toNat], t := e.t + 1 } := by
  rw [round, kconst_of_lt h, scheduleWord_of_lt _ h80]

/-- The eight variables in the order in which R205 adds them to `H`. -/
def Vars.toList (v : Vars) : List Word := [v.a, v.b, v.c, v.d, v.e, v.f, v.g, v.h]

theorem Engine.fold_h_getElem (e : Engine) (i : Fin 8) {x : Word} (hx : e.vars.toList[i.val]? = some x) :
    e.fold.h[i] = addw e.width e.h[i] x := by
  match i, hx with
  | 0, rfl | 1, rfl | 2, rfl | 3, rfl | 4, rfl | 5, rfl | 6, rfl | 7, rfl => rfl

/-- Settles O26: the round's right-hand sides at each width, and the fold word by word. -/
theorem roundAndFold : Obligations.RoundAndFold := by
  unfold Obligations.RoundAndFold
  refine fun s => ⟨exec_ceInitv s, fun hw hT t1 t2 h1 h2 => ?w64, fun hw hT t1 t2 h1 h2 => ?w32,
    s.eng.fold.h, exec_ceFold s, fun i x hx => ?fold⟩
  case w64 =>
    have hlt : s.eng.t.toNat < s.eng.rounds := Engine.rounds_of_w64 hw ▸ hT
    rw [exec_ceRound_of_lt hlt, Engine.round_eq_of_lt hlt hT, hw, h1, h2]
    rfl
  case w32 =>
    have hlt : s.eng.t.toNat < s.eng.rounds := Engine.rounds_of_w32 hw ▸ hT
    rw [exec_ceRound_of_lt hlt, Engine.round_eq_of_lt hlt (by omega), hw, roundVars_w32 _ _ _ h1 h2]
  case fold => rw [s.eng.fold_h_getElem i hx, toNat_addw]

/-! ## `CE.BLOCK` is its parts (R206) -/

theorem execAll_cons_of_next {i : Instr} {is : List Instr} {s t : State} (h : exec i s = .next t) :
    execAll (i :: is) s = execAll is t := by rw [execAll, h]

theorem execAll_append_of_next {is js : List Instr} {s t : State} (h : execAll is s = .next t) :
    execAll (is ++ js) s = execAll js t := by
  induction is generalizing s with
  | nil => cases h; rfl
  | cons i is ih =>
    rw [execAll] at h
    rw [List.cons_append, execAll]
    cases hi : exec i s with
    | next u => exact ih (by simpa [hi] using h)
    | fault r => simp [hi] at h
    | refused r => simp [hi] at h

/-- Rounds below `NR` are performed one after the other (R204). -/
theorem execAll_replicate_ceRound {n : Nat} {s : State} (h : s.eng.t.toNat + n ≤ s.eng.rounds) :
    execAll (List.replicate n .ceRound) s = .next (s.withEng (Engine.roundTimes n s.eng)) := by
  induction n generalizing s with
  | zero => rfl
  | succ n ih =>
    have ht := Engine.round_t_toNat (e := s.eng) (by omega)
    rw [List.replicate_succ, execAll_cons_of_next (exec_ceRound_of_lt (by omega)), ih]
    · rfl
    · simp only [State.withEng_eng, Engine.round_rounds]
      omega

theorem execAll_compress (s : State) :
    execAll ([Instr.ceLoadw, .ceSched, .ceInitv] ++ List.replicate s.eng.rounds Instr.ceRound ++ [Instr.ceFold]) s =
      .next (s.withEng s.eng.compress) := by
  have hstart : execAll [.ceLoadw, .ceSched, .ceInitv] s = .next (s.withEng s.eng.loadWords.schedule.initVars) := by
    rw [execAll_cons_of_next (exec_ceLoadw s), execAll_cons_of_next (exec_ceSched _), execAll_cons_of_next (exec_ceInitv _),
      execAll]
    simp only [State.withEng_eng, State.withEng_withEng]
  have hrounds := execAll_replicate_ceRound (n := s.eng.rounds) (s := s.withEng s.eng.loadWords.schedule.initVars) (by simp)
  rw [← execAll_append_of_next hstart] at hrounds
  rw [execAll_append_of_next hrounds, execAll_cons_of_next (exec_ceFold _), execAll]
  simp only [State.withEng_eng, State.withEng_withEng, Engine.compress]

theorem exec_ceBlock_of_enabled {s : State} (h : s.eng.blockEnabled = true) :
    exec .ceBlock s = .next (s.withEng s.eng.compressBlock) := State.actIf_true _ h

/-- Settles O27: the run of the parts leaves the compressed engine, and `CE.BLOCK` adds the phase. -/
theorem blockIsItsFiveParts : Obligations.BlockIsItsFiveParts := by
  unfold Obligations.BlockIsItsFiveParts
  intro s hstage hphase
  have henabled : s.eng.blockEnabled = true := Engine.atPhase_iff.2 ⟨(Stage.isRun_iff _).2 hstage, hphase⟩
  exact ⟨s.withEng s.eng.compress, execAll_compress s, exec_ceBlock_of_enabled henabled⟩

/-! ## What the next HashState depends on (R200) -/

theorem Engine.roundTimes_eq (n : Nat) (e : Engine) :
    roundTimes n e = { e with vars := (roundTimes n e).vars, t := (roundTimes n e).t } := by
  induction n generalizing e with
  | zero => rfl
  | succ n ih => exact ih e.round

/-- `CE.BLOCK` writes `H`, the scratch registers and `PHASE`. -/
theorem Engine.compressBlock_eq (e : Engine) : e.compressBlock = { e with
    h := e.compress.h, vars := e.compress.vars, w := e.compress.w, t := e.compress.t
    phase := if e.term then .format else .assemble } := by
  simp only [compressBlock, compress, fold]
  rw [roundTimes_eq]
  simp only [initVars, schedule, loadWords]

theorem word_byte_lt (wd : Width) {j k : Nat} (hj : j < 16) (hk : k < wd.bytes) : j * wd.bytes + k < blockBytes wd := by
  cases wd <;> simp only [Width.bytes, blockBytes] at hk ⊢ <;> omega

/-- A message word reads the block's first `B` bytes only. -/
theorem messageWord_congr {wd : Width} {b₁ b₂ : Vector Byte 128} {j : Nat} (hj : j < 16)
    (h : ∀ i : Fin 128, i.val < blockBytes wd → b₁[i] = b₂[i]) : messageWord wd b₁ j = messageWord wd b₂ j := by
  have hslice : slice b₁ (j * wd.bytes) wd.bytes = slice b₂ (j * wd.bytes) wd.bytes := by
    have h₁ := messageWord_slice_length wd b₁ hj
    have h₂ := messageWord_slice_length wd b₂ hj
    refine List.ext_getElem? fun k => ?_
    by_cases hk : k < wd.bytes
    · have hlt := word_byte_lt wd hj hk
      have h128 : j * wd.bytes + k < 128 := hlt.trans_le (blockBytes_le wd)
      rw [slice_getElem? b₁ hk, slice_getElem? b₂ hk, Vector.getElem?_eq_getElem h128, Vector.getElem?_eq_getElem h128]
      exact congrArg some (h ⟨_, h128⟩ hlt)
    · rw [List.getElem?_eq_none (by omega), List.getElem?_eq_none (by omega)]
  rw [messageWord, messageWord, hslice]

/-- Two engines hold the same of all that the rounds and the fold read. -/
structure Engine.SameRounds (e₁ e₂ : Engine) : Prop where
  width : e₁.width = e₂.width
  t : e₁.t = e₂.t
  h : e₁.h = e₂.h
  vars : e₁.vars = e₂.vars
  schedule : ∀ j < e₁.rounds, scheduleWord e₁.w j = scheduleWord e₂.w j

theorem Engine.SameRounds.round {e₁ e₂ : Engine} (hs : SameRounds e₁ e₂) (ht : e₁.t.toNat < e₁.rounds) :
    SameRounds e₁.round e₂.round where
  width := by simpa using hs.width
  t := by rw [round_t, round_t, hs.t]
  h := by simpa using hs.h
  vars := by rw [round_vars, round_vars, hs.schedule _ ht, hs.width, hs.vars, hs.t]
  schedule := by simpa using hs.schedule

theorem Engine.SameRounds.roundTimes {n : Nat} {e₁ e₂ : Engine} (hs : SameRounds e₁ e₂) (ht : e₁.t.toNat + n ≤ e₁.rounds) :
    SameRounds (roundTimes n e₁) (roundTimes n e₂) := by
  induction n generalizing e₁ e₂ with
  | zero => exact hs
  | succ n ih =>
    have ht' := round_t_toNat (e := e₁) (by omega)
    exact ih (hs.round (by omega)) (by rw [round_rounds]; omega)

theorem Engine.SameRounds.fold_h {e₁ e₂ : Engine} (hs : SameRounds e₁ e₂) : e₁.fold.h = e₂.fold.h := by
  simp only [fold, hs.width, hs.h, hs.vars]

/-- The same variant, state words and block start the same rounds. -/
theorem Engine.sameRounds_of_block {e₁ e₂ : Engine} (hname : e₁.name = e₂.name) (hh : e₁.h = e₂.h)
    (hblk : ∀ i : Fin 128, i.val < e₁.blockSize → e₁.blk[i] = e₂.blk[i]) :
    SameRounds e₁.loadWords.schedule.initVars e₂.loadWords.schedule.initVars := by
  have hwidth : e₁.width = e₂.width := congrArg variantWidth hname
  have hrounds : e₁.rounds = e₂.rounds := congrArg roundCount hwidth
  refine ⟨by simpa using hwidth, rfl, by simpa using hh, by simp [hh], fun j hj => ?_⟩
  have hlo := e₁.sixteen_le_rounds
  have hhi := e₁.rounds_le
  simp only [initVars_w, schedule_w, loadWords_width, loadWords_rounds, initVars_rounds, schedule_rounds, ← hwidth,
    ← hrounds] at hj ⊢
  refine expandSchedule_congr (by omega) (fun k hk => ?_) (by omega)
  have h80 : k < 80 := by omega
  rw [scheduleWord_of_lt _ h80, scheduleWord_of_lt _ h80, loadWords_w_of_lt _ hk, loadWords_w_of_lt _ hk, ← hwidth]
  exact messageWord_congr hk hblk

theorem Engine.compress_h_congr {e₁ e₂ : Engine} (hname : e₁.name = e₂.name) (hh : e₁.h = e₂.h)
    (hblk : ∀ i : Fin 128, i.val < e₁.blockSize → e₁.blk[i] = e₂.blk[i]) : e₁.compress.h = e₂.compress.h := by
  have hrounds : e₁.rounds = e₂.rounds := congrArg (roundCount ∘ variantWidth) hname
  rw [compress, compress, ← hrounds]
  exact ((sameRounds_of_block hname hh hblk).roundTimes (by simp)).fold_h

/-- Settles O28: the new `H` is the fold of the same rounds, and the rest of `CE.BLOCK` is scratch and `PHASE`. -/
theorem compressionIsAFunctionOfStateAndBlock : Obligations.CompressionIsAFunctionOfStateAndBlock := by
  unfold Obligations.CompressionIsAFunctionOfStateAndBlock
  intro s₁ s₂ h₁ h₂ hname hh hblk
  refine ⟨s₁.eng.compress.h, s₁.eng.compress.vars, s₂.eng.compress.vars, s₁.eng.compress.w, s₂.eng.compress.w,
    s₁.eng.compress.t, s₂.eng.compress.t, if s₁.eng.term then .format else .assemble,
    if s₂.eng.term then .format else .assemble, ?_, ?_⟩
  · rw [exec_ceBlock_of_enabled h₁, Engine.compressBlock_eq]
  · rw [exec_ceBlock_of_enabled h₂, Engine.compressBlock_eq, Engine.compress_h_congr hname hh hblk]

end Sys2Proof.Machine
end

section
/-! PROOF. DigestFormatter (44_digest_formatter.md R221 to R227): the bytes of the raw digest and of its text, and the buffer
`DF.ROUTE` writes them to. -/

namespace Sys2Proof.Machine

/-! ## Lists of equal pieces, and buffers filled with zeros -/

section Pieces

variable {α β : Type} {f : α → List β} {n : Nat}

theorem length_flatMap_of_length (hn : ∀ x, (f x).length = n) (l : List α) : (l.flatMap f).length = n * l.length := by
  simp [List.length_flatMap, hn, Nat.mul_comm]

/-- Where pieces of `n` entries follow one another, piece `i / n` holds entry `i`. -/
theorem getElem?_flatMap_of_length (hn : ∀ x, (f x).length = n) (hpos : 0 < n) (l : List α) (i : Nat) :
    (l.flatMap f)[i]? = l[i / n]?.bind fun x => (f x)[i % n]? := by
  induction l generalizing i with
  | nil => simp
  | cons x xs ih =>
    rw [List.flatMap_cons]
    obtain hlt | hle := lt_or_ge i n
    · rw [List.getElem?_append_left ((hn x).symm ▸ hlt), Nat.div_eq_of_lt hlt, Nat.mod_eq_of_lt hlt]
      rfl
    · rw [List.getElem?_append_right ((hn x).symm ▸ hle), hn, ih, Nat.div_eq_sub_div hpos hle, Nat.mod_eq_sub_mod hle]
      rfl

end Pieces

section ZeroFilled

variable {n i : Nat} {l : List Byte} {b : Byte}

theorem zeroFilled_getElem_of_getElem? (hi : i < n) (h : l[i]? = some b) : (zeroFilled n l)[i] = b := by
  rw [zeroFilled_get, List.getD_eq_getElem?_getD, h, Option.getD_some]

theorem getElem?_eq_some_zeroFilled (hi : i < n) (h : i < l.length) : l[i]? = some (zeroFilled n l)[i] := by
  rw [zeroFilled_getElem_of_getElem? hi (List.getElem?_eq_getElem h), List.getElem?_eq_getElem h]

theorem zeroFilled_getElem_of_length_le (hi : i < n) (h : l.length ≤ i) : (zeroFilled n l)[i] = 0x00#8 := by
  rw [zeroFilled_get, List.getD_eq_default _ _ h]
  rfl

end ZeroFilled

/-! ## The raw digest (R221, R222) -/

theorem widthBytes_pos (wd : Width) : 0 < wd.bytes := by cases wd <;> decide

theorem digestWords_le (v : Variant) : digestWords v ≤ 8 := by cases v <;> decide

/-- The surviving words hold the digest (R222). -/
theorem digestBytes_le_words (v : Variant) : digestBytes v ≤ (variantWidth v).bytes * digestWords v := by
  cases v <;> decide

/-- `WB` and `DLEN` of the six variants (R152). -/
theorem width_digestBytes_of_row {v : Variant} {wb dlen : Nat}
    (h : (v, wb, dlen) ∈ ([(.v224, 4, 28), (.v256, 4, 32), (.v384, 8, 48), (.v512, 8, 64), (.v512t224, 8, 28),
      (.v512t256, 8, 32)] : List (Variant × Nat × Nat))) : wb = (variantWidth v).bytes ∧ dlen = digestBytes v := by
  simp only [List.mem_cons, Prod.mk.injEq, List.not_mem_nil, or_false] at h
  obtain ⟨rfl, rfl, rfl⟩ | ⟨rfl, rfl, rfl⟩ | ⟨rfl, rfl, rfl⟩ | ⟨rfl, rfl, rfl⟩ | ⟨rfl, rfl, rfl⟩ | ⟨rfl, rfl, rfl⟩ := h <;>
    decide

section Raw

variable (e : Engine)

theorem Engine.digestLength_le : e.digestLength ≤ 64 := (digestBytes_le e.name).1

theorem Engine.digestWordCount_le : e.digestWordCount ≤ 8 := digestWords_le e.name

theorem Engine.digestLength_le_words : e.digestLength ≤ e.width.bytes * e.digestWordCount := digestBytes_le_words e.name

theorem Engine.stateBytes_length : e.stateBytes.length = e.width.bytes * e.digestWordCount := by
  rw [stateBytes, length_flatMap_of_length fun _ => beBytes_length _ _, List.length_take, Vector.length_toList,
    min_eq_left e.digestWordCount_le]

/-- Byte `k` of `full` is byte `k mod WB` of word `k div WB`, the most significant first (R69, R221). -/
theorem Engine.stateBytes_getElem? {k : Nat} (hk : k < e.digestLength) :
    ∃ x, e.h[k / e.width.bytes]? = some x ∧
      e.stateBytes[k]? = some (x.extractLsb' (8 * (e.width.bytes - 1 - k % e.width.bytes)) 8) := by
  have hpos := widthBytes_pos e.width
  have hword : k / e.width.bytes < e.digestWordCount := Nat.div_lt_of_lt_mul (hk.trans_le e.digestLength_le_words)
  have h8 : k / e.width.bytes < 8 := hword.trans_le e.digestWordCount_le
  have hbyte : k % e.width.bytes < (beBytes e.width.bytes e.h[k / e.width.bytes].toNat).length := by
    rw [beBytes_length]; exact Nat.mod_lt k hpos
  refine ⟨e.h[k / e.width.bytes], Vector.getElem?_eq_getElem h8, ?_⟩
  rw [stateBytes, getElem?_flatMap_of_length (fun _ => beBytes_length _ _) hpos, List.getElem?_take_of_lt hword,
    Vector.getElem?_toList, Vector.getElem?_eq_getElem h8, Option.bind_some, List.getElem?_eq_getElem hbyte,
    beBytes_getElem, extractByte_eq]

theorem Engine.stateBytes_take_length : (e.stateBytes.take e.digestLength).length = e.digestLength := by
  rw [List.length_take, stateBytes_length, min_eq_left e.digestLength_le_words]

end Raw

theorem exec_dfRaw (s : State) : exec .dfRaw s = .next (s.withEng s.eng.formatRaw) := rfl

/-- Settles O29: `DBUF` is `full` cut to `DLEN` bytes, with zeros after it. -/
theorem rawDigestIsBigEndianTruncated : Obligations.RawDigestIsBigEndianTruncated := by
  unfold Obligations.RawDigestIsBigEndianTruncated
  intro s wb dlen hrow
  obtain ⟨hwb, hdlen⟩ := width_digestBytes_of_row hrow
  obtain rfl : wb = s.eng.width.bytes := hwb
  obtain rfl : dlen = s.eng.digestLength := hdlen
  refine ⟨zeroFilled 64 (s.eng.stateBytes.take s.eng.digestLength), exec_dfRaw s, fun k => ⟨fun hk => ?digest, fun hk => ?zero⟩⟩
  case digest =>
    obtain ⟨x, hx, hbyte⟩ := s.eng.stateBytes_getElem? hk
    exact ⟨x, hx, zeroFilled_getElem_of_getElem? k.isLt (by rw [List.getElem?_take_of_lt hk, hbyte])⟩
  case zero => exact zeroFilled_getElem_of_length_le k.isLt (by rwa [Engine.stateBytes_take_length])

/-! ## The text (R224, R225) -/

theorem hexPair_length (b : Byte) : (hexPair b).length = 2 := rfl

/-- `hexdigit(v)` is the character at index `v` of R225's string. -/
theorem hexDigit_toNat : ∀ v < 16, some (hexDigit v).toNat = ("0123456789abcdef".toList[v]?).map Char.toNat := by decide

/-- The digits of a byte by position: the high half at an even one, the low half at an odd one. -/
theorem hexPair_getElem?_toNat (b : Byte) (i : Nat) : (hexPair b)[i % 2]?.map BitVec.toNat =
    ("0123456789abcdef".toList[if i % 2 = 0 then b.toNat / 16 else b.toNat % 16]?).map Char.toNat := by
  have hb : b.toNat < 256 := b.isLt
  obtain h | h := Nat.mod_two_eq_zero_or_one i
  · rw [if_pos h, h, ← hexDigit_toNat _ (by omega)]
    rfl
  · rw [if_neg (by omega), h, ← hexDigit_toNat _ (by omega)]
    rfl

section Text

variable (e : Engine)

theorem Engine.rawDigest_length : e.rawDigest.length = e.digestLength := by
  rw [rawDigest, slice_length, Nat.sub_zero, min_eq_left e.digestLength_le]

theorem Engine.rawDigest_getElem? {k : Nat} (hk : k < e.digestLength) : e.rawDigest[k]? = e.dbuf[k]? := by
  rw [rawDigest, slice_getElem? _ hk, Nat.zero_add]

theorem Engine.digits_length : (e.rawDigest.flatMap hexPair).length = 2 * e.digestLength := by
  rw [length_flatMap_of_length hexPair_length, rawDigest_length]

theorem Engine.textDigest_length : e.textDigest.length = 2 * e.digestLength + 1 := by
  rw [textDigest, List.length_append, digits_length, List.length_singleton]

theorem Engine.textDigest_terminator : e.textDigest[2 * e.digestLength]? = some 0x00#8 := by
  rw [textDigest, ← digits_length, List.getElem?_concat_length]

/-- A digit of the text is a digit of the digest byte at half its place (R224). -/
theorem Engine.textDigest_digit {i : Nat} (hi : i < 2 * e.digestLength) : ∃ b, e.dbuf[i / 2]? = some b ∧
    e.textDigest[i]?.map BitVec.toNat =
      ("0123456789abcdef".toList[if i % 2 = 0 then b.toNat / 16 else b.toNat % 16]?).map Char.toNat := by
  have hbyte : i / 2 < e.digestLength := by omega
  have h64 : i / 2 < 64 := hbyte.trans_le e.digestLength_le
  refine ⟨e.dbuf[i / 2], Vector.getElem?_eq_getElem h64, ?_⟩
  rw [textDigest, List.getElem?_append_left (e.digits_length.symm ▸ hi),
    getElem?_flatMap_of_length hexPair_length Nat.two_pos, e.rawDigest_getElem? hbyte, Vector.getElem?_eq_getElem h64,
    Option.bind_some, hexPair_getElem?_toNat]

end Text

theorem exec_dfText (s : State) : exec .dfText s = .next (s.returning (.bytes s.eng.textDigest)) := rfl

/-- Settles O30: the two digits of byte `k` are those at the places `2 * k` and `2 * k + 1` of the text. -/
theorem textIsLowercaseHex : Obligations.TextIsLowercaseHex := by
  unfold Obligations.TextIsLowercaseHex
  intro s
  refine ⟨s.eng.textDigest, exec_dfText s, s.eng.textDigest_length, s.eng.textDigest_terminator, fun k hk => ?_⟩
  obtain ⟨b, hb, hhigh⟩ := s.eng.textDigest_digit (i := 2 * k) (by omega)
  obtain ⟨b', hb', hlow⟩ := s.eng.textDigest_digit (i := 2 * k + 1) (by omega)
  have heven : 2 * k / 2 = k := by omega
  have hodd : (2 * k + 1) / 2 = k := by omega
  rw [heven] at hb
  rw [hodd, hb] at hb'
  obtain rfl : b = b' := Option.some.inj hb'
  rw [if_pos (by omega)] at hhigh
  rw [if_neg (by omega)] at hlow
  exact ⟨b, hb, hhigh, hlow⟩

/-! ## Where the digest goes (R226) -/

section Route

variable {e : Engine}

theorem Engine.route_of_derivekey (h : e.stage = .derivekey) : e.route = { e with keyblk := zeroFilled 128 e.rawDigest } := by
  simp only [route, h]

theorem Engine.route_of_inner (h : e.stage = .inner) : e.route = { e with innerd := e.dbuf } := by
  simp only [route, h]

theorem Engine.route_of_last (h : e.stage = .outer ∨ e.stage = .plain) : e.route = e.routeOutput := by
  obtain h | h := h <;> simp only [route, h]

end Route

/-- A zero-filled buffer with room for the raw digest holds it. -/
theorem zeroFilled_rawDigest {n : Nat} (e : Engine) (i : Fin n) :
    (i.val < e.digestLength → e.dbuf[i.val]? = some (zeroFilled n e.rawDigest)[i]) ∧
    (e.digestLength ≤ i.val → (zeroFilled n e.rawDigest)[i] = 0x00#8) := by
  refine ⟨fun hi => ?digest, fun hi => zeroFilled_getElem_of_length_le i.isLt (e.rawDigest_length.symm ▸ hi)⟩
  case digest =>
    rw [← e.rawDigest_getElem? hi]
    exact getElem?_eq_some_zeroFilled i.isLt (e.rawDigest_length.symm ▸ hi)

/-- A zero-filled buffer holds the text: its digits, then zeros, of which the text's own terminator is the first. -/
theorem zeroFilled_textDigest {n : Nat} (e : Engine) (i : Fin n) :
    (i.val < 2 * e.digestLength → ∃ b, e.dbuf[i.val / 2]? = some b ∧ some (zeroFilled n e.textDigest)[i].toNat =
      ("0123456789abcdef".toList[if i.val % 2 = 0 then b.toNat / 16 else b.toNat % 16]?).map Char.toNat) ∧
    (2 * e.digestLength ≤ i.val → (zeroFilled n e.textDigest)[i] = 0x00#8) := by
  have hlen := e.textDigest_length
  refine ⟨fun hi => ?digit, fun hi => ?zero⟩
  case digit =>
    obtain ⟨b, hb, hdigit⟩ := e.textDigest_digit hi
    rw [getElem?_eq_some_zeroFilled i.isLt (by omega)] at hdigit
    exact ⟨b, hb, hdigit⟩
  case zero =>
    obtain heq | hlt := hi.eq_or_lt
    · exact zeroFilled_getElem_of_getElem? i.isLt (heq ▸ e.textDigest_terminator)
    · exact zeroFilled_getElem_of_length_le i.isLt (by omega)

theorem exec_dfRoute (s : State) : exec .dfRoute s = .next (s.withEng s.eng.route) := rfl

/-- Settles O31: in each stage, the buffer it names holds the raw digest or the text with zeros after it. -/
theorem routeByStage : Obligations.RouteByStage := by
  unfold Obligations.RouteByStage
  intro s
  refine ⟨fun hs => ⟨zeroFilled 128 s.eng.rawDigest, ?_, zeroFilled_rawDigest s.eng⟩, fun hs => ?_,
    fun hs => ⟨zeroFilled 256 s.eng.outputBytes, ?_, fun htext => ?raw, fun htext => ?text⟩⟩
  · rw [exec_dfRoute, Engine.route_of_derivekey hs]
  · rw [exec_dfRoute, Engine.route_of_inner hs]
  · rw [exec_dfRoute, Engine.route_of_last hs, Engine.routeOutput]
  case raw =>
    rw [Engine.outputBytes, htext]
    exact zeroFilled_rawDigest s.eng
  case text =>
    rw [Engine.outputBytes, htext]
    exact zeroFilled_textDigest s.eng

end Sys2Proof.Machine
end

section
/-! PROOF. HmacComposer (45_hmac_composer.md R235 to R242): the key block from a short and from a long key, the two pads, the
hand-overs between digest runs, and the runs of steps that `DR.LOOP` and `HM.INNER` name (R240, R260). -/

namespace Sys2Proof.Machine

/-! ## The start of key derivation (R236) -/

/-- Settles O32: the step is enabled in every stage that is not busy. -/
theorem deriveKeySelectsPath : Obligations.DeriveKeySelectsPath := by
  unfold Obligations.DeriveKeySelectsPath
  exact fun s hb => State.actIf_true s.eng.deriveKey (by simp [Engine.deriveKeyEnabled, hb])

/-! ## The key block (R237, R238) -/

theorem exec_hmKeycopy_of_available {s : State} (hs : s.eng.stage = .derivekey) (hp : s.eng.phase = .keycopy)
    (h : s.eng.klen.toNat ≤ s.eng.srcAvail) : exec .hmKeycopy s = .next (s.withEng s.eng.keyCopy) :=
  State.actIf_true _ (by simp [Engine.keyCopyEnabled, hs, hp, h])

/-- Settles O33: the source hands over the `KLEN` bytes, and a zero-filled buffer holds them. -/
theorem keyCopyPadsWithZeros : Obligations.KeyCopyPadsWithZeros := by
  unfold Obligations.KeyCopyPadsWithZeros
  intro s hs hp h64
  refine ⟨fun hshort => exec_hmKeycopy_of_not_enabled (.inr (.inr hshort)), fun havail => ?_⟩
  have hlen : (s.eng.srcBytes s.eng.klen.toNat).length = s.eng.klen.toNat := Engine.srcBytes_length_of_le havail h64
  exact ⟨zeroFilled 128 (s.eng.srcBytes s.eng.klen.toNat), exec_hmKeycopy_of_available hs hp havail, fun i =>
    ⟨fun hi => getElem?_eq_some_zeroFilled i.isLt (hlen.symm ▸ hi),
      fun hi => zeroFilled_getElem_of_length_le i.isLt (hlen.symm ▸ hi)⟩⟩

/-- An HMAC step that belongs to one stage and one phase is enabled there. -/
theorem stagePhase_eq_true {e : Engine} {st : Stage} {p : Phase} (hs : e.stage = st) (hp : e.phase = p) :
    (decide (e.stage = st) && decide (e.phase = p)) = true := by
  simp [hs, hp]

/-- Settles O34: the key block is the zero-filled raw digest, and `HM.DONE` writes what `DF.ROUTE` does in the outer run. -/
theorem keyHashAndDone : Obligations.KeyHashAndDone := by
  unfold Obligations.KeyHashAndDone
  refine ⟨fun s hs hp => ⟨zeroFilled 128 s.eng.rawDigest, State.actIf_true s.eng.keyHash (stagePhase_eq_true hs hp),
    zeroFilled_rawDigest s.eng⟩, fun s hs hp => ⟨s.withEng s.eng.routeOutput, ?route, ?done⟩⟩
  case route => rw [exec_dfRoute, Engine.route_of_last (.inl hs)]
  case done => exact State.actIf_true s.eng.finishHmac (stagePhase_eq_true hs hp)

/-! ## The pads (R239, R241) -/

theorem padBlock_getElem (keyblk : Vector Byte 128) (n : Nat) (pad : Byte) (i : Fin 128) :
    (padBlock keyblk n pad)[i] = if i.val < n then keyblk[i] ^^^ pad else 0x00#8 := by
  simp [padBlock]

/-- A buffer whose first bytes are taken from another one's start. -/
theorem overwrite_slice_getElem {n k : Nat} (buf src : Vector Byte n) (hk : k ≤ n) (i : Fin n) :
    (overwrite buf (slice src 0 k))[i] = if i.val < k then src[i] else buf[i] := by
  have hlen : (slice src 0 k).length = k := by rw [slice_length, Nat.sub_zero, min_eq_left hk]
  split
  · next hi =>
    refine overwrite_getElem_of_getElem? i.isLt ?_
    rw [slice_getElem? _ hi, Nat.zero_add, Vector.getElem?_eq_getElem i.isLt]
    rfl
  · next hi => exact overwrite_getElem_of_length_le i.isLt (by omega)

/-- Settles O35: the inner pad is written to `IKB` and, over the block, to `IBLK`. -/
theorem buildPadsXorsKey : Obligations.BuildPadsXorsKey := by
  unfold Obligations.BuildPadsXorsKey
  intro s hs hp
  exact ⟨padBlock s.eng.keyblk s.eng.blockSize 0x36#8, padBlock s.eng.keyblk s.eng.blockSize 0x5c#8,
    overwrite s.eng.iblk (slice (padBlock s.eng.keyblk s.eng.blockSize 0x36#8) 0 s.eng.blockSize),
    State.actIf_true s.eng.buildPads (stagePhase_eq_true hs hp), fun i =>
    ⟨padBlock_getElem _ _ _ i, padBlock_getElem _ _ _ i, overwrite_slice_getElem _ _ s.eng.blockSize_bounds.2.1 i⟩⟩

/-- Settles O36: the outer pad is written to `IBLK` over the block. -/
theorem outerRunStartsFromInnerDigest : Obligations.OuterRunStartsFromInnerDigest := by
  unfold Obligations.OuterRunStartsFromInnerDigest
  exact fun s hs hp => ⟨overwrite s.eng.iblk (slice s.eng.okb 0 s.eng.blockSize),
    State.actIf_true s.eng.startOuter (stagePhase_eq_true hs hp),
    overwrite_slice_getElem _ _ s.eng.blockSize_bounds.2.1⟩

/-! ## The turns of the block loop (R260) -/

theorem exec_baNext_of_not_enabled {s : State} (h : s.eng.nextEnabled = false) : exec .baNext s = .next s :=
  State.actIf_false _ h

theorem exec_ceBlock_of_not_enabled {s : State} (h : s.eng.blockEnabled = false) : exec .ceBlock s = .next s :=
  State.actIf_false _ h

theorem Engine.loopTurn_eq_none {e : Engine} : e.loopTurn = none ↔ e.nextEnabled = false ∧ e.blockEnabled = false := by
  unfold loopTurn
  split_ifs <;> simp_all

theorem Engine.loopTurn_eq_some {e e' : Engine} (h : e.loopTurn = some e') :
    e.nextEnabled = true ∧ e' = e.nextBlock ∨ e.blockEnabled = true ∧ e' = e.compressBlock := by
  unfold loopTurn at h
  split_ifs at h with hnext hblock
  · exact .inl ⟨hnext, (Option.some.inj h).symm⟩
  · exact .inr ⟨hblock, (Option.some.inj h).symm⟩

/-- A turn of the loop is a step of the machine. -/
theorem exec_of_loopTurn {s : State} {e : Engine} (h : s.eng.loopTurn = some e) :
    ∃ i, (i = .baNext ∨ i = .ceBlock) ∧ exec i s = .next (s.withEng e) := by
  obtain ⟨hnext, rfl⟩ | ⟨hblock, rfl⟩ := Engine.loopTurn_eq_some h
  · exact ⟨.baNext, .inl rfl, State.actIf_true _ hnext⟩
  · exact ⟨.ceBlock, .inr rfl, State.actIf_true _ hblock⟩

/-- The turns of the loop are a run of steps. -/
theorem execAll_of_loopTurns (n : Nat) (s : State) : ∃ is : List Instr, (∀ i ∈ is, i = .baNext ∨ i = .ceBlock) ∧
    execAll is s = .next (s.withEng (Engine.loopTurns n s.eng)) := by
  induction n generalizing s with
  | zero => exact ⟨[], nofun, rfl⟩
  | succ n ih =>
    rw [Engine.loopTurns]
    cases hturn : s.eng.loopTurn with
    | none => exact ⟨[], nofun, rfl⟩
    | some e =>
      obtain ⟨i, hi, hexec⟩ := exec_of_loopTurn hturn
      obtain ⟨is, his, hrun⟩ := ih (s.withEng e)
      exact ⟨i :: is, List.forall_mem_cons.2 ⟨hi, his⟩, (execAll_cons_of_next hexec).trans hrun⟩

/-! ## The block loop ends (R184, R260) -/

/-- `INNERD` holds the source where it is the inner digest (R28, R74). -/
def Engine.InnerFits (e : Engine) : Prop := e.src = .innerd → e.srcLen.toNat ≤ 64

/-- A bound on the blocks from one of this kind on, the full ones not counted (R171, R184). -/
def BlockOp.blocksFrom : BlockOp → Nat
  | .inject => 3
  | .full | .padOnly => 2
  | .final | .lenOnly => 1

theorem BlockOp.blocksFrom_bounds (op : BlockOp) : 1 ≤ op.blocksFrom ∧ op.blocksFrom ≤ 3 := by cases op <;> decide

/-- The data end in at most two blocks; only an injected block can stand before them. -/
theorem BlockOp.blocksFrom_le {op : BlockOp} (h : op ≠ .inject) : op.blocksFrom ≤ 2 := by
  cases op with
  | inject => exact absurd rfl h
  | full | final | padOnly | lenOnly => decide

/-- A bound on the blocks that the bytes at hand allow: a full block takes at least 64 of them. -/
def Engine.blocksLeft (e : Engine) : Nat := e.selectBlockOp.blocksFrom + e.srcAvail / 64

/-- A bound on the turns that the bytes at hand allow: two for each block, one after the terminal block. -/
def Engine.turnsLeft (e : Engine) : Nat :=
  match e.phase with
  | .assemble => 2 * e.blocksLeft
  | .compress => if e.term then 1 else 2 * e.blocksLeft + 1
  | .init | .format | .keycopy => 0

theorem Engine.turnsLeft_lt_loopBound (e : Engine) : e.turnsLeft < e.loopBound := by
  have hop := e.selectBlockOp.blocksFrom_bounds.2
  unfold turnsLeft loopBound blocksLeft
  cases e.phase with
  | assemble => dsimp only; omega
  | compress => dsimp only; split <;> omega
  | init | format | keycopy => exact Nat.succ_pos _

/-- The source has lost the bytes a block takes. -/
theorem Engine.nextBlock_srcAvail {e : Engine} (h64 : e.InnerFits) (hready : (e.injv || e.sourceReady) = true) :
    e.nextBlock.srcAvail = e.srcAvail - e.taken e.selectBlockOp := by
  have htaken := taken_le_srcAvail hready
  cases hsrc : e.src with
  | none =>
    have h0 : e.srcAvail = 0 := by simp only [srcAvail, hsrc]
    have h0' : e.nextBlock.srcAvail = 0 := by simp only [srcAvail, nextBlock_src, hsrc]
    omega
  | key | msg =>
    have hx : e.External := by simp [External, hsrc]
    rw [srcAvail_of_external hx, srcAvail_of_external (by simpa [External] using hx), nextBlock_ra, blockStep_ra,
      srcTaken_of_external _ hx, List.length_drop]
  | innerd =>
    have hlen := h64 hsrc
    rw [srcAvail_of_innerd hsrc] at htaken ⊢
    rw [srcAvail_of_innerd (by simpa using hsrc), nextBlock_srcLen, nextBlock_ipos, blockStep_ipos]
    by_cases hle : e.ipos.toNat ≤ e.srcLen.toNat
    · rw [srcTaken_ipos_toNat hsrc hle hlen (by rwa [srcAvail_of_innerd hsrc])]
      omega
    · have h0 : e.taken e.selectBlockOp = 0 := by omega
      rw [h0, srcTaken_zero]
      omega

/-- No injected block is selected twice. -/
theorem Engine.nextBlock_select_ne_inject (e : Engine) : e.nextBlock.selectBlockOp ≠ .inject := by
  rw [Ne, select_inject, nextBlock_injv_eq_false]
  exact Bool.false_ne_true

/-- After the data and its mark the length field is all that remains (R179, R180). -/
theorem Engine.nextBlock_select_of_padOnly {e : Engine} (h : e.selectBlockOp = .padOnly) :
    e.nextBlock.selectBlockOp = .lenOnly := by
  obtain ⟨-, hlt, hnonneg, -⟩ := select_padOnly.1 h
  have hB := e.blockSize_bounds.1
  rw [remaining] at hlt hnonneg
  have hcons : e.nextBlock.consumed.toNat = e.consumed.toNat + e.blockSize := by
    rw [nextBlock_consumed, blockStep_consumed_toNat _ (by omega)]
  have htotal : e.nextBlock.total = e.total := by rw [nextBlock_total, blockStep_total, h, if_neg nofun]
  rw [select_lenOnly, remaining, hcons, htotal, nextBlock_blockSize]
  exact ⟨e.nextBlock_injv_eq_false, by omega, by omega⟩

/-- After a block that is not terminal fewer are left. -/
theorem Engine.nextBlock_blocksLeft_lt {e : Engine} (h64 : e.InnerFits) (hready : (e.injv || e.sourceReady) = true)
    (ht : e.nextBlock.term = false) : e.nextBlock.blocksLeft < e.blocksLeft := by
  have hnext := BlockOp.blocksFrom_le e.nextBlock_select_ne_inject
  have htaken := taken_le_srcAvail hready
  rw [blocksLeft, blocksLeft, nextBlock_srcAvail h64 hready]
  rw [nextBlock_term, blockStep_term] at ht
  cases hop : e.selectBlockOp with
  | inject =>
    have hop3 : BlockOp.inject.blocksFrom = 3 := rfl
    rw [taken, hop3]
    omega
  | full =>
    have hop2 : BlockOp.full.blocksFrom = 2 := rfl
    have hB := e.blockSize_bounds.1
    rw [hop, taken] at htaken
    rw [taken, hop2]
    omega
  | padOnly =>
    have hpad : BlockOp.lenOnly.blocksFrom < BlockOp.padOnly.blocksFrom := by decide
    rw [nextBlock_select_of_padOnly hop]
    omega
  | final | lenOnly => simp [hop] at ht

/-- `CE.BLOCK` leaves the choice of the next block as it is. -/
theorem Engine.compressBlock_selectBlockOp (e : Engine) : e.compressBlock.selectBlockOp = e.selectBlockOp := by
  have hrem : e.compressBlock.remaining = e.remaining := by
    rw [remaining, remaining, compressBlock_total, compressBlock_consumed]
  rw [selectBlockOp, selectBlockOp, lengthFits, lengthFits, hrem, compressBlock_injv, compressBlock_blockSize,
    compressBlock_lenField]

theorem Engine.compressBlock_srcAvail (e : Engine) : e.compressBlock.srcAvail = e.srcAvail := by
  rw [srcAvail, srcAvail, compressBlock_src, compressBlock_ra, compressBlock_srcLen, compressBlock_ipos]

theorem Engine.nextBlock_turnsLeft_lt {e : Engine} (h64 : e.InnerFits) (h : e.nextEnabled = true) :
    e.nextBlock.turnsLeft < e.turnsLeft := by
  obtain ⟨hat, hready⟩ : e.atPhase .assemble = true ∧ (e.injv || e.sourceReady) = true := by
    simpa only [nextEnabled, Bool.and_eq_true] using h
  have hpos := e.selectBlockOp.blocksFrom_bounds.1
  have hturns : e.turnsLeft = 2 * e.blocksLeft := by simp only [turnsLeft, (atPhase_iff.1 hat).2]
  rw [hturns, turnsLeft, nextBlock_phase]
  cases ht : e.nextBlock.term with
  | true =>
    simp only [if_true, blocksLeft]
    omega
  | false =>
    have hlt := nextBlock_blocksLeft_lt h64 hready ht
    simp only [Bool.false_eq_true, if_false]
    omega

theorem Engine.compressBlock_turnsLeft_lt {e : Engine} (h : e.blockEnabled = true) :
    e.compressBlock.turnsLeft < e.turnsLeft := by
  have hp := (atPhase_iff.1 h).2
  cases ht : e.term <;> simp [turnsLeft, blocksLeft, hp, ht, compressBlock_selectBlockOp, compressBlock_srcAvail]

theorem Engine.loopTurn_decreases {e e' : Engine} (h64 : e.InnerFits) (h : e.loopTurn = some e') :
    e'.InnerFits ∧ e'.turnsLeft < e.turnsLeft := by
  obtain ⟨hnext, rfl⟩ | ⟨hblock, rfl⟩ := loopTurn_eq_some h
  · exact ⟨by simpa [InnerFits] using h64, nextBlock_turnsLeft_lt h64 hnext⟩
  · exact ⟨by simpa [InnerFits] using h64, compressBlock_turnsLeft_lt hblock⟩

/-- Enough turns end the loop: no turn is left after them. -/
theorem Engine.loopTurn_loopTurns {n : Nat} {e : Engine} (h64 : e.InnerFits) (hn : e.turnsLeft < n) :
    (loopTurns n e).loopTurn = none := by
  induction n generalizing e with
  | zero => exact absurd hn (Nat.not_lt_zero _)
  | succ n ih =>
    rw [loopTurns]
    cases hturn : e.loopTurn with
    | none => exact hturn
    | some e' =>
      obtain ⟨h64', hlt⟩ := loopTurn_decreases h64 hturn
      exact ih h64' (by omega)

theorem Engine.loopTurn_blockLoop {e : Engine} (h64 : e.InnerFits) : e.blockLoop.loopTurn = none :=
  loopTurn_loopTurns h64 e.turnsLeft_lt_loopBound

/-! ## The named runs (R240, R260) -/

theorem exec_drInit_of_enabled {s : State} (h : s.eng.runInitEnabled = true) :
    exec .drInit s = .next (s.withEng s.eng.runInit) := State.actIf_true _ h

theorem exec_drLoop (s : State) : exec .drLoop s = .next (s.withEng s.eng.blockLoop) := rfl

theorem exec_hmInner_of_inner {s : State} (h : s.eng.stage = .inner) :
    exec .hmInner s = .next (s.withEng s.eng.innerRun) := State.actIf_true _ (by simp [Engine.innerRunEnabled, h])

theorem exec_hmInner_of_not_inner {s : State} (h : s.eng.stage ≠ .inner) : exec .hmInner s = .next s :=
  State.actIf_false _ (by simp [Engine.innerRunEnabled, h])

theorem Engine.runInitEnabled_of_inner {e : Engine} (h : e.stage = .inner) :
    e.runInitEnabled = decide (e.phase = .init) := by
  simp [runInitEnabled, atPhase, h, Stage.isRun]

/-- `DR.INIT` and the block loop as one step, or the loop alone. -/
theorem run_inner {s : State} (h : s.eng.stage = .inner) :
    (if s.eng.phase = .init then execAll [.drInit, .drLoop] s else exec .drLoop s) = .next (s.withEng s.eng.innerRun) := by
  have hinit := Engine.runInitEnabled_of_inner h
  split
  · next hp =>
    have hinit : s.eng.runInitEnabled = true := by simpa [hp] using hinit
    rw [execAll_cons_of_next (exec_drInit_of_enabled hinit), execAll_cons_of_next (exec_drLoop _), Engine.innerRun, if_pos hinit]
    rfl
  · next hp => rw [exec_drLoop, Engine.innerRun, if_neg (by simp [hinit, hp])]

/-- Settles O38: each turn of the loop is a step, and the bytes at hand allow fewer turns than the loop's bound. -/
theorem namedRunsAreTheirSteps : Obligations.NamedRunsAreTheirSteps := by
  unfold Obligations.NamedRunsAreTheirSteps
  refine ⟨fun s h64 => ?loop, fun s h => ⟨_, exec_hmInner_of_inner h, run_inner h⟩, fun s => exec_hmInner_of_not_inner⟩
  obtain ⟨is, his, hrun⟩ := execAll_of_loopTurns s.eng.loopBound s
  obtain ⟨hnext, hblock⟩ := Engine.loopTurn_eq_none.1 (Engine.loopTurn_blockLoop h64)
  exact ⟨is, s.withEng s.eng.blockLoop, his, hrun, exec_drLoop s, exec_baNext_of_not_enabled hnext,
    exec_ceBlock_of_not_enabled hblock⟩

end Sys2Proof.Machine
end

section
/-! PROOF. The sequencer and the commands (46_sequencer_and_commands.md R255 to R262): where a step comes from, what a command
starts, and the steps of a digest run by the table of R262. -/

namespace Sys2Proof.Machine

/-! ## The step of a packet (R255) -/

theorem step_of_packet {s : State} {p : Packet} {rest : List Packet} (h : s.sched = p :: rest) :
    step s = runPacket p { s with sched := rest } := by
  simp only [step, nextStep, h]

theorem runPacket_of_ok {p : Packet} {i : Instr} {bs : List Byte} (s : State) (h : decode p.fmt p.bytes = .ok (i, bs)) :
    runPacket p s = exec i s := by
  simp only [runPacket, h]

theorem runPacket_of_error {p : Packet} {err : DecodeError} (s : State) (h : decode p.fmt p.bytes = .error err) :
    runPacket p s = rejectPacket err s := by
  simp only [runPacket, h]

theorem decode_of_decodeTableWord {nbits w : Nat} {i : Instr} (h : decodeTableWord nbits w = some i) :
    ∃ bs, decode (Packet.ofTableWord nbits w).fmt (Packet.ofTableWord nbits w).bytes = .ok (i, bs) := by
  unfold decodeTableWord at h
  split at h
  · next bs hd => exact ⟨bs, Option.some.inj h ▸ hd⟩
  · cases h

/-- A packet that is no operation and no command word is refused. -/
theorem rejectPacket_refused {err : DecodeError} (s : State) (h : ∀ v, err ≠ .reservedCommandBits v) :
    ∃ r, rejectPacket err s = .refused r := by
  cases err with
  | reservedCommandBits v => exact absurd rfl (h v)
  | badHeader _ | misaligned _ | noOperation _ | badOperand _ _ | truncated => exact ⟨_, rfl⟩

/-- Settles O1: a step runs its first packet, and a packet is what its bytes decode to. -/
theorem stepRunsDecodedOperation : Obligations.StepRunsDecodedOperation := by
  unfold Obligations.StepRunsDecodedOperation
  refine ⟨fun s p rest i bs hs hd => ?operation, fun s nbits w i hw => ?tableWord, fun s p rest v hs hd => ?reserved,
    fun s p rest err hs hd herr => ?refused⟩
  case operation => rw [step_of_packet hs, runPacket_of_ok _ hd]
  case tableWord =>
    obtain ⟨bs, hd⟩ := decode_of_decodeTableWord hw
    exact (step_of_packet (s := s.withFetchWord nbits w) rfl).trans (runPacket_of_ok s hd)
  case reserved => rw [step_of_packet hs, runPacket_of_error _ hd, rejectPacket]
  case refused =>
    rw [step_of_packet hs, runPacket_of_error _ hd]
    exact rejectPacket_refused _ herr

/-! ## The candidate step (R262) -/

/-- All that the table of R262 lists: the two steps of the HMAC composition, and the four of a digest run. -/
theorem Engine.candidate_cases {e : Engine} {i : Instr} (h : e.candidate = some i) :
    (e.stage = .derivekey ∧ e.phase = .keycopy ∧ i = .hmKeycopy) ∨
    (e.stage = .buildpads ∧ e.phase = .init ∧ i = .hmBuildpads) ∨
    ∃ p, (i, p) ∈ runSteps ∧ e.atPhase p = true := by
  unfold candidate at h
  split at h <;> cases h
  case h_1 hs hp => exact .inl ⟨hs, hp, rfl⟩
  case h_2 hs hp => exact .inr (.inl ⟨hs, hp, rfl⟩)
  case h_3 hs hp | h_4 hs hp | h_5 hs hp | h_6 hs hp =>
    exact .inr (.inr ⟨.init, by simp [runSteps], atPhase_iff.2 ⟨by simp [hs, Stage.isRun], hp⟩⟩)
  case h_7 hs hp | h_8 hs hp | h_9 hs hp | h_10 hs hp =>
    exact .inr (.inr ⟨.assemble, by simp [runSteps], atPhase_iff.2 ⟨by simp [hs, Stage.isRun], hp⟩⟩)
  case h_11 hs hp | h_12 hs hp | h_13 hs hp | h_14 hs hp =>
    exact .inr (.inr ⟨.compress, by simp [runSteps], atPhase_iff.2 ⟨by simp [hs, Stage.isRun], hp⟩⟩)
  case h_15 hs hp | h_16 hs hp | h_17 hs hp | h_18 hs hp =>
    exact .inr (.inr ⟨.format, by simp [runSteps], atPhase_iff.2 ⟨by simp [hs, Stage.isRun], hp⟩⟩)

theorem Engine.candidate_of_not_busy {e : Engine} (h : e.busy = false) : e.candidate = none := by
  cases hc : e.candidate with
  | none => rfl
  | some i =>
    obtain ⟨hs, -⟩ | ⟨hs, -⟩ | ⟨p, -, hat⟩ := candidate_cases hc
    · simp [busy, hs] at h
    · simp [busy, hs] at h
    · simp [(isRun_ne (atPhase_iff.1 hat).1).1] at h

theorem step_of_no_candidate {s : State} (hq : s.sched = []) (h : s.eng.candidate = none) : step s = .next s := by
  simp only [step, nextStep, engineTurn, hq, h, State.idle_eq]

/-- A step of a digest run is the engine's turn in its phase. -/
theorem step_of_runStep {s : State} {i : Instr} {p : Phase} (hi : (i, p) ∈ runSteps) (hq : s.sched = [])
    (hs : s.eng.stage ∈ [Stage.derivekey, .inner, .outer, .plain]) (hp : s.eng.phase = p) : step s = exec i s :=
  step_of_candidate hq (Engine.candidate_of_atPhase hi (Engine.atPhase_iff.2 ⟨(Stage.isRun_iff _).2 hs, hp⟩))

/-- Settles O2: the candidate of each pair of R262, and none while the engine is not busy. -/
theorem emptyQueueTakesCandidateStep : Obligations.EmptyQueueTakesCandidateStep := by
  unfold Obligations.EmptyQueueTakesCandidateStep
  intro s hq
  exact ⟨fun hs hp => step_of_candidate hq (by simp only [Engine.candidate, hs, hp]),
    fun hs hp => step_of_candidate hq (by simp only [Engine.candidate, hs, hp]),
    fun hs => ⟨step_of_runStep (by simp [runSteps]) hq hs, step_of_runStep (by simp [runSteps]) hq hs,
      step_of_runStep (by simp [runSteps]) hq hs, step_of_runStep (by simp [runSteps]) hq hs⟩,
    fun hb => step_of_no_candidate hq (Engine.candidate_of_not_busy hb)⟩

/-! ## The start of a digest run (R259) -/

/-- Settles O37: `DR.INIT` is enabled at `P_INIT` of a run; `TOTAL` has room for `SRCLEN`. -/
theorem runInitLoadsVector : Obligations.RunInitLoadsVector := by
  unfold Obligations.RunInitLoadsVector
  exact fun s hs hp => ⟨s.eng.srcLen.setWidth 65, BitVec.toNat_setWidth_of_le (by decide),
    exec_drInit_of_enabled (Engine.atPhase_iff.2 ⟨(Stage.isRun_iff _).2 hs, hp⟩)⟩

/-! ## The end of a digest run (R261) -/

theorem exec_drEnd_of_format {s : State} (hr : s.eng.stage.isRun = true) (hp : s.eng.phase = .format) :
    exec .drEnd s = .next (s.withEng s.eng.runEnd) :=
  State.actIf_true _ (Engine.atPhase_iff.2 ⟨hr, hp⟩)

theorem execAll_dfRaw_dfRoute (is : List Instr) (s : State) :
    execAll (.dfRaw :: .dfRoute :: is) s = execAll is (s.withEng s.eng.formatRaw.route) := by
  rw [execAll_cons_of_next (exec_dfRaw s), execAll_cons_of_next (exec_dfRoute _)]
  simp only [State.withEng_eng, State.withEng_withEng]

/-- `DF.RAW`, `DF.ROUTE`, and then a step of the HMAC composition that is enabled in the stage and phase they leave. -/
theorem execAll_handOver {s : State} {i : Instr} {b : Bool} {e : Engine}
    (hexec : exec i (s.withEng s.eng.formatRaw.route) = (s.withEng s.eng.formatRaw.route).actIf b e) (hb : b = true) :
    execAll [.dfRaw, .dfRoute, i] s = .next (s.withEng e) := by
  rw [execAll_dfRaw_dfRoute, execAll_cons_of_next (hexec.trans (State.actIf_true e hb)), execAll, State.withEng_withEng]

theorem Engine.runEnd_of_outer {e : Engine} (hs : e.stage = .outer) : e.runEnd = e.formatRaw.route.finishHmac := by
  simp [runEnd, handOver, hs]

theorem Engine.runEnd_of_plain {e : Engine} (hs : e.stage = .plain) :
    e.runEnd = { e.formatRaw.route with stage := .done } := by
  simp [runEnd, handOver, hs]

/-- The stages a digest run ends in, by the stage it runs in (R261). -/
def runEndStages : List (Stage × Stage) := [(.derivekey, .buildpads), (.inner, .outer), (.outer, .done), (.plain, .done)]

theorem Engine.runEnd_stage_mem {e : Engine} (hr : e.stage.isRun = true) : (e.stage, e.runEnd.stage) ∈ runEndStages := by
  cases hs : e.stage with
  | derivekey => simp [runEnd_of_derivekey hs, runEndStages]
  | inner => simp [runEnd_of_inner hs, runEndStages]
  | outer => simp [runEnd_of_last (.inl hs), runEndStages]
  | plain => simp [runEnd_of_last (.inr hs), runEndStages]
  | idle | buildpads | done | error => simp [hs, Stage.isRun] at hr

/-- Settles O39: after `DF.RAW` and `DF.ROUTE` the stage and phase are as before, so the stage's hand-over is enabled. -/
theorem runEndHandsOver : Obligations.RunEndHandsOver := by
  unfold Obligations.RunEndHandsOver
  intro s hp
  have hend (hr : s.eng.stage.isRun = true) := exec_drEnd_of_format hr hp
  refine ⟨fun hs => ?keyHash, fun hs => ?outer, fun hs => ?done, fun hs => ⟨s.withEng s.eng.formatRaw.route, ?route, ?plain⟩,
    fun hs => ⟨_, hend ((Stage.isRun_iff _).2 hs), Engine.runEnd_stage_mem ((Stage.isRun_iff _).2 hs)⟩⟩
  case keyHash =>
    rw [hend (by simp [hs, Stage.isRun]), Engine.runEnd_of_derivekey hs]
    exact (execAll_handOver rfl (stagePhase_eq_true (by simpa using hs) (by simpa using hp))).symm
  case outer =>
    rw [hend (by simp [hs, Stage.isRun]), Engine.runEnd_of_inner hs]
    exact (execAll_handOver rfl (stagePhase_eq_true (by simpa using hs) (by simpa using hp))).symm
  case done =>
    rw [hend (by simp [hs, Stage.isRun]), Engine.runEnd_of_outer hs]
    exact (execAll_handOver rfl (stagePhase_eq_true (by simpa using hs) (by simpa using hp))).symm
  case route => rw [execAll_dfRaw_dfRoute, execAll]
  case plain =>
    rw [hend (by simp [hs, Stage.isRun]), Engine.runEnd_of_plain hs]
    rfl

/-! ## The transition table (R262) -/

/-- What one step of the sequencer makes of (`STAGE`, `PHASE`): the rows of R262, those of a digest run once for every stage. -/
inductive PairStep : Stage × Phase → Stage × Phase → Prop where
  | keyCopied : PairStep (.derivekey, .keycopy) (.buildpads, .init)
  | padsBuilt : PairStep (.buildpads, .init) (.inner, .init)
  | started {st : Stage} (h : st.isRun = true) : PairStep (st, .init) (st, .assemble)
  | assembled {st : Stage} (h : st.isRun = true) : PairStep (st, .assemble) (st, .compress)
  | folded {st : Stage} (h : st.isRun = true) (terminal : Bool) :
      PairStep (st, .compress) (st, if terminal then .format else .assemble)
  | keyHashed : PairStep (.derivekey, .format) (.buildpads, .init)
  | innerEnded : PairStep (.inner, .format) (.outer, .init)
  | ended {st : Stage} (h : st = .outer ∨ st = .plain) : PairStep (st, .format) (.done, .format)

/-- The stage and the phase of an engine. -/
def Engine.pair (e : Engine) : Stage × Phase := (e.stage, e.phase)

theorem Engine.pairStep_runEnd {e : Engine} (hr : e.stage.isRun = true) (hp : e.phase = .format) :
    PairStep e.pair e.runEnd.pair := by
  cases hs : e.stage with
  | derivekey => simpa [pair, hs, hp, runEnd_of_derivekey hs] using PairStep.keyHashed
  | inner => simpa [pair, hs, hp, runEnd_of_inner hs] using PairStep.innerEnded
  | outer => simpa [pair, hs, hp, runEnd_of_last (.inl hs)] using PairStep.ended (.inl rfl)
  | plain => simpa [pair, hs, hp, runEnd_of_last (.inr hs)] using PairStep.ended (.inr rfl)
  | idle | buildpads | done | error => simp [hs, Stage.isRun] at hr

theorem pairStep_of_actIf {s t : State} {b : Bool} {e : Engine} (hm : PairStep s.eng.pair e.pair)
    (h : s.actIf b e = .next t) : t = s ∨ PairStep s.eng.pair t.eng.pair := by
  obtain ⟨-, rfl⟩ | ⟨-, rfl⟩ := State.actIf_next h
  · exact .inr hm
  · exact .inl rfl

/-- A step of a digest run waits or moves by its row. -/
theorem pairStep_of_runStep {s t : State} {i : Instr} {p : Phase} (hi : (i, p) ∈ runSteps) (hat : s.eng.atPhase p = true)
    (h : exec i s = .next t) : t = s ∨ PairStep s.eng.pair t.eng.pair := by
  obtain ⟨hr, hp⟩ := Engine.atPhase_iff.1 hat
  simp only [runSteps, List.mem_cons, Prod.mk.injEq, List.not_mem_nil, or_false] at hi
  obtain ⟨rfl, rfl⟩ | ⟨rfl, rfl⟩ | ⟨rfl, rfl⟩ | ⟨rfl, rfl⟩ := hi
  · exact pairStep_of_actIf (by simpa [Engine.pair, hp] using PairStep.started hr) h
  · exact pairStep_of_actIf (by simpa [Engine.pair, hp] using PairStep.assembled hr) h
  · exact pairStep_of_actIf (by simpa [Engine.pair, hp] using PairStep.folded hr s.eng.term) h
  · exact pairStep_of_actIf (Engine.pairStep_runEnd hr hp) h

/-- The sequencer's step waits or moves by a row. -/
theorem pairStep_of_candidate {s t : State} {i : Instr} (hc : s.eng.candidate = some i) (h : exec i s = .next t) :
    t = s ∨ PairStep s.eng.pair t.eng.pair := by
  obtain ⟨hs, hp, rfl⟩ | ⟨hs, hp, rfl⟩ | ⟨p, hi, hat⟩ := Engine.candidate_cases hc
  · exact pairStep_of_actIf (by simpa [Engine.pair, hs, hp] using PairStep.keyCopied) h
  · exact pairStep_of_actIf (by simpa [Engine.pair, hs, hp] using PairStep.padsBuilt) h
  · exact pairStep_of_runStep hi hat h

theorem pairStep_of_step {s t : State} (hq : s.sched = []) (h : step s = .next t) :
    t = s ∨ PairStep s.eng.pair t.eng.pair := by
  obtain ⟨p, rest, i, bs, hp, -⟩ | ⟨p, rest, v, hp, -⟩ | ⟨i, -, hc, hx⟩ | ⟨-, -, rfl⟩ := step_cases h
  · simp [hq] at hp
  · simp [hq] at hp
  · exact pairStep_of_candidate hc hx
  · exact .inl rfl

/-- Settles O40: every row of R262 is one of `PairStep`, at one of the four stages of a run. -/
theorem sequencerFollowsTransitionTable : Obligations.SequencerFollowsTransitionTable := by
  unfold Obligations.SequencerFollowsTransitionTable
  intro s t hq h
  refine (pairStep_of_step hq h).imp_right fun hstep => ?_
  change (s.eng.pair, t.eng.pair) ∈ _
  generalize s.eng.pair = a, t.eng.pair = b at hstep
  cases hstep with
  | keyCopied | padsBuilt | keyHashed | innerEnded => decide
  | @started st hr | @assembled st hr =>
    rw [Stage.isRun_iff] at hr
    revert st
    decide
  | @folded st hr terminal =>
    rw [Stage.isRun_iff] at hr
    revert terminal st
    decide
  | ended hs => obtain rfl | rfl := hs <;> decide

/-! ## Commands (R256 to R258) -/

/-- The pairs of R93, each with the variant it names. -/
def variantPairs : List (Nat × Bool × Variant) :=
  [(0, false, .v224), (1, false, .v256), (2, true, .v384), (3, true, .v512), (4, true, .v512t224), (5, true, .v512t256)]

theorem lookupVariant_of_listed {name : BitVec 3} {w64 : Bool} {v : Variant} (h : (name.toNat, w64, v) ∈ variantPairs) :
    lookupVariant name w64 = some v :=
  (by decide : ∀ row ∈ variantPairs, ∀ name : BitVec 3, name.toNat = row.1 → lookupVariant name row.2.1 = some row.2.2)
    _ h name rfl

/-- The width bit of a listed pair is that of its variant (R93, R152). -/
theorem blockBytes_of_listed {code : Nat} {w64 : Bool} {v : Variant} (h : (code, w64, v) ∈ variantPairs) :
    blockBytes (variantWidth v) = if w64 then 128 else 64 :=
  (by decide : ∀ row ∈ variantPairs, blockBytes (variantWidth row.2.2) = if row.2.1 then 128 else 64) _ h

theorem Engine.startCommand_of_some {e : Engine} {isHmac text : Bool} {name : BitVec 3} {w64 : Bool} {v : Variant}
    (h : lookupVariant name w64 = some v) : e.startCommand isHmac text name w64 =
      if isHmac then (e.latch isHmac text v w64).startHmac else (e.latch isHmac text v w64).startDigest := by
  simp only [startCommand, h]

/-- Settles O45: the pair names the variant, and the command starts on the cleared engine. -/
theorem digestStartsPlainRun : Obligations.DigestStartsPlainRun := by
  unfold Obligations.DigestStartsPlainRun
  intro s text n w v hb hlisted
  have hexec := exec_command_of_not_busy false text n w hb
  rw [Engine.startCommand_of_some (lookupVariant_of_listed hlisted)] at hexec
  exact hexec

/-- Settles O46: as `DIGEST`, with `HM.DERIVEKEY` at the end; the block size is that of the width bit. -/
theorem hmacStartsKeyDerivation : Obligations.HmacStartsKeyDerivation := by
  unfold Obligations.HmacStartsKeyDerivation
  intro s text n w v hb hlisted
  have hexec := exec_command_of_not_busy true text n w hb
  rw [Engine.startCommand_of_some (lookupVariant_of_listed hlisted)] at hexec
  rw [← blockBytes_of_listed hlisted]
  exact hexec

end Sys2Proof.Machine
end

section
/-! PROOF. The host's register accesses (46_sequencer_and_commands.md R263 to R268): the length registers by halves, the derived
signals, the output buffer, and what a resting engine keeps. -/

namespace Sys2Proof.Machine

/-! ## The length registers by halves (R99, R264) -/

theorem setLow_toNat (x : BitVec 64) (v : BitVec 32) : (setLow x v).toNat = x.toNat / 2 ^ 32 * 2 ^ 32 + v.toNat := by
  have hx := x.isLt
  have hv := v.isLt
  rw [setLow, BitVec.toNat_append, BitVec.extractLsb'_toNat, Nat.shiftRight_eq_div_pow, ← Nat.shiftLeft_add_eq_or_of_lt hv,
    Nat.shiftLeft_eq]
  omega

theorem setHigh_toNat (x : BitVec 64) (v : BitVec 32) : (setHigh x v).toNat = v.toNat * 2 ^ 32 + x.toNat % 2 ^ 32 := by
  rw [setHigh, BitVec.toNat_append, BitVec.extractLsb'_toNat, Nat.shiftRight_zero,
    ← Nat.shiftLeft_add_eq_or_of_lt (Nat.mod_lt _ (by decide)), Nat.shiftLeft_eq]

theorem lowHalf_eq_ofNat (x : BitVec 64) : lowHalf x = BitVec.ofNat 32 (x.toNat % 2 ^ 32) := by
  apply BitVec.eq_of_toNat_eq
  rw [lowHalf, BitVec.extractLsb'_toNat, Nat.shiftRight_zero, BitVec.toNat_ofNat, Nat.mod_mod]

theorem highHalf_eq_ofNat (x : BitVec 64) : highHalf x = BitVec.ofNat 32 (x.toNat / 2 ^ 32) := by
  apply BitVec.eq_of_toNat_eq
  rw [highHalf, BitVec.extractLsb'_toNat, Nat.shiftRight_eq_div_pow, BitVec.toNat_ofNat]

/-- A read of the window returns the word there (R60). -/
theorem exec_read {i : Instr} {s : State} {off : BitVec 9} {v : BitVec 32} (hexec : exec i s = s.read off)
    (h : s.eng.busRead off = v) : exec i s = .next (s.returning (.bus v)) := by
  rw [hexec, State.read_eq, h]

/-- Settles O50: a half of a register as a number, written and read. -/
theorem lengthRegistersReadBackAsWritten : Obligations.LengthRegistersReadBackAsWritten := by
  unfold Obligations.LengthRegistersReadBackAsWritten
  exact ⟨fun s v => ⟨setLow s.eng.msgLen v, rfl, setLow_toNat _ v⟩, fun s v => ⟨setHigh s.eng.msgLen v, rfl, setHigh_toNat _ v⟩,
    fun s v => ⟨setLow s.eng.keyLen v, rfl, setLow_toNat _ v⟩, fun s v => ⟨setHigh s.eng.keyLen v, rfl, setHigh_toNat _ v⟩,
    fun s => ⟨exec_read rfl (lowHalf_eq_ofNat _), exec_read rfl (highHalf_eq_ofNat _),
      exec_read rfl (lowHalf_eq_ofNat _), exec_read rfl (highHalf_eq_ofNat _)⟩⟩

/-! ## The derived signals (R42, R96 to R98, R102, R263) -/

theorem Engine.req_toNat (e : Engine) : e.req.toNat =
    if e.stage = .derivekey ∧ e.rcvd.toNat < e.klen.toNat then 1
    else if (e.stage = .inner ∨ e.stage = .plain) ∧ e.rcvd.toNat < e.mlen.toNat then 2 else 0 := by
  unfold req
  cases e.stage <;> simp [apply_ite BitVec.toNat]

/-- The fields of `STATUS` as a number (R96). -/
theorem statusFields_toNat : ∀ (stage : BitVec 3) (req : BitVec 2) (error done busy : Bool),
    ((stage ++ 0#3 ++ req ++ BitVec.ofBool error ++ BitVec.ofBool done ++ BitVec.ofBool busy).setWidth 32).toNat =
      busy.toNat + 2 * done.toNat + 4 * error.toNat + 8 * req.toNat + 256 * stage.toNat := by
  decide

theorem stageCode_toNat (st : Stage) :
    (stageCode st).toNat = [Stage.idle, .derivekey, .buildpads, .inner, .outer, .done, .plain, .error].idxOf st := by
  cases st <;> rfl

theorem Engine.busy_iff_mem (e : Engine) : e.busy = true ↔ e.stage ∈ [Stage.derivekey, .buildpads, .inner, .outer, .plain] := by
  unfold busy
  cases e.stage <;> decide

theorem Engine.statusWord_toNat (e : Engine) : e.statusWord.toNat =
    (if e.stage ∈ [Stage.derivekey, .buildpads, .inner, .outer, .plain] then 1 else 0) + (if e.stage = .done then 2 else 0) +
      (if e.stage = .error then 4 else 0) + 8 * e.req.toNat +
      256 * [Stage.idle, .derivekey, .buildpads, .inner, .outer, .done, .plain, .error].idxOf e.stage := by
  rw [statusWord, statusFields_toNat, stageCode_toNat, isDone, isError]
  simp only [← busy_iff_mem, Bool.toNat, Bool.cond_eq_ite, decide_eq_true_eq, mul_ite, mul_one, mul_zero]

theorem Engine.errWord_toNat (e : Engine) : e.errWord.toNat =
    [none, some ErrorKind.unknownVariant, some .sourceOpenError, some .sourceReadError, some .keySourceError,
      some .badCommand].idxOf e.err := by
  unfold errWord
  cases e.err with
  | none => rfl
  | some k => cases k <;> rfl

theorem Engine.want_eq (e : Engine) : e.want = if e.req.toNat = 0 then 0
    else min (min (Config.raBytes - e.ra.length) (e.srcLen.toNat - e.rcvd.toNat)) (2 ^ 32 - 1) := by
  rw [want]
  congr 1
  simp [BitVec.toNat_eq]

theorem Engine.want_lt (e : Engine) : e.want < 2 ^ 32 := by
  unfold want
  split <;> omega

/-- Settles O51: each read's word as a number. -/
theorem statusRegistersReadDerivedSignals : Obligations.StatusRegistersReadDerivedSignals := by
  unfold Obligations.StatusRegistersReadDerivedSignals
  intro s req hreq
  obtain rfl : req = s.eng.req.toNat := hreq.trans s.eng.req_toNat.symm
  exact ⟨⟨s.eng.statusWord, rfl, s.eng.statusWord_toNat⟩, ⟨s.eng.errWord, rfl, s.eng.errWord_toNat⟩,
    ⟨BitVec.ofNat 32 s.eng.want, rfl, (Nat.mod_eq_of_lt s.eng.want_lt).trans s.eng.want_eq⟩,
    ⟨s.eng.rlen.setWidth 32, rfl, BitVec.toNat_setWidth_of_le (by decide)⟩,
    ⟨s.eng.dlen.setWidth 32, rfl, BitVec.toNat_setWidth_of_le (by decide)⟩,
    ⟨s.eng.olen.setWidth 32, rfl, BitVec.toNat_setWidth_of_le (by decide)⟩⟩

/-! ## The output buffer and the null accesses (R62, R265, R267) -/

theorem Engine.busRead_obuf (e : Engine) (i : BitVec 6) :
    e.busRead (BitVec.ofNat 9 (0x100 + 4 * i.toNat)) = obufWord e.obuf i.toNat := by
  have hi := i.isLt
  have hoff : (BitVec.ofNat 9 (0x100 + 4 * i.toNat)).toNat = 0x100 + 4 * i.toNat := Nat.mod_eq_of_lt (by omega)
  have hindex : (0x100 + 4 * i.toNat - 0x100) / 4 = i.toNat := by omega
  unfold busRead
  split
  case h_11 => rw [hoff, hindex, if_pos (Nat.le_add_right _ _)]
  all_goals omega

/-- The lanes of a word of `OBUF` (R62). -/
theorem obufWord_byte (obuf : Vector Byte 256) {i k : Nat} (hi : i < 64) (hk : k < 4) :
    obuf[4 * i + k]? = some ((obufWord obuf i).extractLsb' (8 * k) 8) := by
  have hlen : (slice obuf (4 * i) 4).length = 4 := by
    rw [slice_length]
    omega
  have hlt : leNat (slice obuf (4 * i) 4) < 2 ^ 32 := by simpa [hlen] using leNat_lt (slice obuf (4 * i) 4)
  rw [← slice_getElem? obuf hk, List.getElem?_eq_getElem (hk.trans_eq hlen.symm), extractByte_eq, obufWord,
    BitVec.toNat_ofNat, Nat.mod_eq_of_lt hlt, ofNat_leNat_div]

/-- Settles O52: the lanes of a word of `OBUF` are its bytes; a null access is an answer of 0, or nothing. -/
theorem outputAndNullAccesses : Obligations.OutputAndNullAccesses := by
  unfold Obligations.OutputAndNullAccesses
  exact ⟨fun s i => ⟨obufWord s.eng.obuf i.toNat, exec_read rfl (s.eng.busRead_obuf i),
    fun k hk => obufWord_byte s.eng.obuf i.isLt hk⟩, fun s off => rfl, fun s off v => rfl⟩

/-! ## Resting states (R226, R268, R301) -/

/-- The second engine is the first with, perhaps, other values in `MSGLEN` and `KEYLEN`. -/
def Engine.SameButLengths (e e' : Engine) : Prop := e' = { e with msgLen := e'.msgLen, keyLen := e'.keyLen }

/-- The three stages a command is accepted in. -/
def Stage.resting : List Stage := [.idle, .done, .error]

section Resting

variable {s t : State}

theorem sameButLengths_of_stays {i : Instr} (hstay : exec i s = .next s) (h : exec i s = .next t) :
    s.eng.SameButLengths t.eng := by
  cases hstay.symm.trans h
  rfl

theorem sameButLengths_of_answer {o : Output} (h : s.answer o = .next t) : s.eng.SameButLengths t.eng := by
  obtain rfl : s.returning o = t := by simpa using h
  rfl

theorem sameButLengths_of_setLengths {m k : BitVec 64} (h : s.act { s.eng with msgLen := m, keyLen := k } = .next t) :
    s.eng.SameButLengths t.eng := by
  obtain rfl : s.withEng { s.eng with msgLen := m, keyLen := k } = t := by simpa using h
  rfl

/-- In a resting stage nothing is wanted and no engine step belongs to it. -/
theorem Engine.quiet_of_resting {e : Engine} (h : e.stage ∈ Stage.resting) :
    e.req = 0 ∧ e.stage.isRun = false ∧ e.stage ≠ .derivekey ∧ e.stage ≠ .buildpads := by
  simp only [Stage.resting, List.mem_cons, List.not_mem_nil, or_false] at h
  obtain hs | hs | hs := h <;> simp [Engine.req, hs, Stage.isRun]

/-- Bytes are dropped, `WR.DINCTL` has no effect and the engine steps are not enabled. -/
theorem exec_of_resting (h : s.eng.stage ∈ Stage.resting) :
    (∀ v, exec (.wrDin v) s = .next s) ∧ (∀ v, exec (.wrDinctl v) s = .next s) ∧
    ∀ i ∈ [Instr.hmKeycopy, .hmBuildpads, .drInit, .baNext, .ceBlock, .drEnd], exec i s = .next s := by
  obtain ⟨hreq, hrun, hkey, hpads⟩ := Engine.quiet_of_resting h
  have hwant : ¬0 < s.eng.want := fun hw => (Engine.want_pos.1 hw).1 hreq
  refine ⟨fun v => ?_, fun v => exec_wrDinctl_of_no_error (Engine.dinctlError_of_no_request hreq),
    List.forall_mem_cons.2 ⟨exec_hmKeycopy_of_not_enabled (.inl hkey),
      List.forall_mem_cons.2 ⟨exec_hmBuildpads_of_not_enabled (.inl hpads),
        (List.forall_mem_map (l := runSteps) (f := Prod.fst)).2 fun _ hi => exec_runStep_of_not_run hi hrun⟩⟩⟩
  rw [exec_wrDin, Engine.acceptByte_of_not_want _ hwant, State.withEng_self]

end Resting

/-- Settles O56: of the agents' steps in a resting state only the writes of the length registers change the engine. -/
theorem restingStatesStay : Obligations.RestingStatesStay := by
  unfold Obligations.RestingStatesStay
  intro i s t hs hi h hcmd hdigest hhmac hreset
  obtain ⟨hdin, hdinctl, hsteps⟩ := exec_of_resting hs
  change s.eng.SameButLengths t.eng
  cases i with
  | digest a b c => exact absurd rfl (hdigest a b c)
  | hmac a b c => exact absurd rfl (hhmac a b c)
  | wrCmd v => exact absurd rfl (hcmd v)
  | reset => exact absurd rfl hreset
  | rdStatus | rdErr | rdWant | rdMsglenLo | rdMsglenHi | rdKeylenLo | rdKeylenHi | rdRlen | rdDlen | rdOlen =>
    exact sameButLengths_of_answer h
  | rdObuf k => exact sameButLengths_of_answer h
  | wrMsglenLo v => exact sameButLengths_of_setLengths (k := s.eng.keyLen) h
  | wrMsglenHi v => exact sameButLengths_of_setLengths (k := s.eng.keyLen) h
  | wrKeylenLo v => exact sameButLengths_of_setLengths (m := s.eng.msgLen) h
  | wrKeylenHi v => exact sameButLengths_of_setLengths (m := s.eng.msgLen) h
  | wrDin v => exact sameButLengths_of_stays (hdin v) h
  | wrDinctl v => exact sameButLengths_of_stays (hdinctl v) h
  | busNull a =>
    cases a with
    | read off => exact sameButLengths_of_answer h
    | write off v => exact sameButLengths_of_stays rfl h
  | hmKeycopy | hmBuildpads | drInit | baNext | ceBlock | drEnd =>
    exact sameButLengths_of_stays (hsteps _ (by simp)) h
  | _ => exact absurd hi Bool.false_ne_true

end Sys2Proof.Machine
end

section
/-! PROOF. Delivery and the digest run (46_sequencer_and_commands.md R269, R270; 20_memory.md R80): a byte delivered commutes with
the sequencer's step, and a message delivered whole is digested in a number of steps fixed by its length. -/

namespace Sys2Proof.Machine

/-! ## A byte pushed into the window and the engine steps (R269) -/

/-- The engine with one more byte in its window: what `WR.DIN` does where `WANT` is positive (R73). -/
def Engine.push (e : Engine) (b : Byte) : Engine := { e with ra := e.ra ++ [b], rcvd := e.rcvd + 1 }

section Push

variable {e : Engine} (b : Byte)

theorem Engine.acceptByte_eq_push (h : 0 < e.want) : e.acceptByte b = e.push b := acceptByte_of_want b h

theorem Engine.srcBytes_push {n : Nat} (hx : e.External) (hn : n ≤ e.ra.length) : (e.push b).srcBytes n = e.srcBytes n := by
  rw [srcBytes_of_external n (e := e.push b) hx, srcBytes_of_external n hx, push, List.take_append_of_le_length hn]

theorem Engine.srcTaken_push {n : Nat} (hx : e.External) (hn : n ≤ e.ra.length) :
    (e.push b).srcTaken n = (e.srcTaken n).push b := by
  rw [srcTaken_of_external n (e := e.push b) hx, srcTaken_of_external n hx, push, push, List.drop_append_of_le_length hn]

@[simp] theorem Engine.push_blockSize : (e.push b).blockSize = e.blockSize := rfl
@[simp] theorem Engine.push_tailBytes : (e.push b).tailBytes = e.tailBytes := rfl
@[simp] theorem Engine.push_lengthField : (e.push b).lengthField = e.lengthField := rfl

theorem Engine.emitBlock_push (l : List Byte) (terminal : Bool) :
    (e.push b).emitBlock l terminal = (e.emitBlock l terminal).push b := by
  rw [emitBlock, push_blockSize]
  simp only [emitBlock, push]

/-- A block whose bytes are at hand takes them from the head of the window; the new byte stands behind them. -/
theorem Engine.blockStep_push {op : BlockOp} (hx : e.External) (hn : e.taken op ≤ e.ra.length) :
    (e.push b).blockStep op = (e.blockStep op).push b := by
  cases op with
  | inject =>
    simp only [blockStep, inject, push_blockSize, emitBlock_push]
    simp only [push]
  | lenOnly => simp only [blockStep, lenOnlyBlock, lenOnlyBytes, push_blockSize, push_lengthField, emitBlock_push]
  | full =>
    rw [taken] at hn
    simp only [blockStep, fullBlock, push_blockSize, srcTaken_push b hx hn, srcBytes_push b hx hn, emitBlock_push]
  | final =>
    rw [taken] at hn
    simp only [blockStep, finalBlock, finalBytes, push_blockSize, push_tailBytes, push_lengthField, srcTaken_push b hx hn,
      srcBytes_push b hx hn, emitBlock_push]
  | padOnly =>
    rw [taken] at hn
    simp only [blockStep, padOnlyBlock, padBytes, push_blockSize, push_tailBytes, srcTaken_push b hx hn,
      srcBytes_push b hx hn, emitBlock_push]

theorem Engine.nextBlock_push (hx : e.External) (hready : (e.injv || e.sourceReady) = true) :
    (e.push b).nextBlock = e.nextBlock.push b := by
  have hn : e.taken e.selectBlockOp ≤ e.ra.length := srcAvail_of_external hx ▸ taken_le_srcAvail hready
  have hop : (e.push b).selectBlockOp = e.selectBlockOp := rfl
  rw [nextBlock, hop, blockStep_push b hx hn]
  simp only [nextBlock, push]

theorem Engine.round_push : (e.push b).round = e.round.push b := by
  simp only [round, push, width]

theorem Engine.roundTimes_push (n : Nat) (e : Engine) : roundTimes n (e.push b) = (roundTimes n e).push b := by
  induction n generalizing e with
  | zero => rfl
  | succ n ih => rw [roundTimes, round_push, ih, roundTimes]

theorem Engine.compress_push : (e.push b).compress = e.compress.push b := by
  have hstart : (e.push b).loadWords.schedule.initVars = e.loadWords.schedule.initVars.push b := by
    simp only [loadWords, schedule, initVars, push, rounds, width]
  have hrounds : (e.push b).rounds = e.rounds := rfl
  rw [compress, hstart, hrounds, roundTimes_push]
  simp only [fold, push, width, compress]

theorem Engine.compressBlock_push : (e.push b).compressBlock = e.compressBlock.push b := by
  have hterm : (e.push b).term = e.term := rfl
  rw [compressBlock, compress_push, hterm]
  simp only [compressBlock, push]

theorem Engine.runInit_push : (e.push b).runInit = e.runInit.push b := rfl

theorem Engine.atPhase_push (p : Phase) : (e.push b).atPhase p = e.atPhase p := rfl

/-- A step that is enabled stays so when a byte comes. -/
theorem Engine.nextEnabled_push (hx : e.External) (h : e.nextEnabled = true) : (e.push b).nextEnabled = true := by
  simp only [nextEnabled, sourceReady, Bool.and_eq_true, Bool.or_eq_true, decide_eq_true_eq, srcAvail_of_external hx] at h
  obtain ⟨hat, hready⟩ := h
  have havail : (e.push b).srcAvail = e.ra.length + 1 := by
    rw [srcAvail_of_external (e := e.push b) hx, push, List.length_append, List.length_singleton]
  have hneed : (e.push b).need = e.need := rfl
  simp only [nextEnabled, sourceReady, Bool.and_eq_true, Bool.or_eq_true, decide_eq_true_eq, havail, hneed]
  exact ⟨hat, hready.imp_right Nat.le_succ_of_le⟩

end Push

/-! ## `WANT` after the engine steps (R42) -/

/-- `WANT` stays positive when only bytes of the window are taken. -/
theorem Engine.want_pos_of_le {e e' : Engine} (h : 0 < e.want) (hreq : e'.req = e.req) (hra : e'.ra.length ≤ e.ra.length)
    (hcount : e'.rcvd = e.rcvd ∧ e'.srcLen = e.srcLen) : 0 < e'.want := by
  obtain ⟨hne, hroom, hlt⟩ := want_pos.1 h
  obtain ⟨hrcvd, hlen⟩ := hcount
  exact want_pos.2 ⟨hreq ▸ hne, hra.trans_lt hroom, by rwa [hrcvd, hlen]⟩

theorem Engine.nextBlock_ra_length_le (e : Engine) : e.nextBlock.ra.length ≤ e.ra.length := by
  rw [nextBlock_ra, blockStep_ra]
  exact e.srcTaken_ra_length_le _

/-! ## The two orders (R80, R269) -/

/-- `WR.DIN` and a step that treats the pushed engine as it treats the engine. -/
theorem delivery_commutes {s : State} {i : Instr} {v : BitVec 32} {e : Engine} (hw : 0 < s.eng.want) (hw' : 0 < e.want)
    (h : exec i s = .next (s.withEng e))
    (hpush : exec i (s.withEng (s.eng.push (v.extractLsb' 0 8))) = .next (s.withEng (e.push (v.extractLsb' 0 8)))) :
    ∃ t, execAll [i, .wrDin v] s = .next t ∧ execAll [.wrDin v, i] s = .next t := by
  refine ⟨s.withEng (e.push (v.extractLsb' 0 8)), ?_, ?_⟩
  · rw [execAll_cons_of_next h, execAll_cons_of_next (exec_wrDin v _), execAll, State.withEng_eng, State.withEng_withEng,
      Engine.acceptByte_eq_push _ hw']
  · rw [execAll_cons_of_next (exec_wrDin v s), Engine.acceptByte_eq_push _ hw, execAll_cons_of_next hpush, execAll]

/-- A copied key is all there when `HM.KEYCOPY` is enabled: no byte is wanted then (R237). -/
theorem Engine.Inv.not_want_of_keyCopyEnabled {e : Engine} (he : e.Inv) (h : e.keyCopyEnabled = true) : ¬0 < e.want := by
  obtain ⟨hs, hp, havail⟩ : e.stage = .derivekey ∧ e.phase = .keycopy ∧ e.klen.toNat ≤ e.srcAvail := by
    simpa [keyCopyEnabled, and_assoc] using h
  obtain ⟨-, -, hcount⟩ := (runInv_keycopy hp).1 (he.run (by simp [hs, Stage.isRun]))
  obtain ⟨hkey, hlen⟩ : e.src = .key ∧ e.srcLen = e.klen := by simpa only [SourceSelected, hs] using he.source
  rw [srcAvail_of_external (.inl hkey)] at havail
  intro hw
  have hlt := (want_pos.1 hw).2.2
  rw [hlen] at hlt
  omega

/-- At the end of a run its source is drained: no byte is wanted then (R45 (d)). -/
theorem Engine.Inv.not_want_of_format {e : Engine} (he : e.Inv) (hat : e.atPhase .format = true) : ¬0 < e.want := by
  obtain ⟨hr, hp⟩ := atPhase_iff.1 hat
  intro hw
  have hx := (he.flow (isRun_ne hr).1).external_of_req (want_pos.1 hw).1
  exact not_drained_of_want hw hx ((runInv_format hp).1 (he.run hr)).2.2

/-- The steps of a digest run that a wanted byte can meet: `DR.INIT`, `BA.NEXT` and `CE.BLOCK`. -/
theorem delivery_commutes_of_runStep {s : State} {i : Instr} {p : Phase} {v : BitVec 32} (he : s.eng.Inv)
    (hi : (i, p) ∈ runSteps) (hat : s.eng.atPhase p = true) (hw : 0 < s.eng.want) (hmoves : exec i s ≠ .next s) :
    ∃ t, execAll [i, .wrDin v] s = .next t ∧ execAll [.wrDin v, i] s = .next t := by
  have hx := (he.flow (Engine.isRun_ne (Engine.atPhase_iff.1 hat).1).1).external_of_req (Engine.want_pos.1 hw).1
  simp only [runSteps, List.mem_cons, Prod.mk.injEq, List.not_mem_nil, or_false] at hi
  obtain ⟨rfl, rfl⟩ | ⟨rfl, rfl⟩ | ⟨rfl, rfl⟩ | ⟨rfl, rfl⟩ := hi
  · exact delivery_commutes hw (Engine.want_pos_of_le (e' := s.eng.runInit) hw rfl le_rfl ⟨rfl, rfl⟩) (exec_drInit_of_enabled hat)
      (exec_drInit_of_enabled hat)
  · have hnext : s.eng.nextEnabled = true := by
      by_contra h
      exact hmoves (exec_baNext_of_not_enabled (by simpa using h))
    have hready : (s.eng.injv || s.eng.sourceReady) = true := (Bool.and_eq_true_iff.1 hnext).2
    refine delivery_commutes hw (Engine.want_pos_of_le hw (by simp [Engine.req]) s.eng.nextBlock_ra_length_le (by simp))
      (State.actIf_true _ hnext) ?_
    rw [← Engine.nextBlock_push _ hx hready]
    exact State.actIf_true _ (Engine.nextEnabled_push _ hx hnext)
  · refine delivery_commutes hw (Engine.want_pos_of_le hw (by simp [Engine.req]) (by simp) (by simp))
      (exec_ceBlock_of_enabled hat) ?_
    rw [← Engine.compressBlock_push]
    exact exec_ceBlock_of_enabled hat
  · exact absurd hw (he.not_want_of_format hat)

/-- Settles O58: the other candidate steps are not enabled, or meet no wanted byte. -/
theorem deliveryCommutesWithEngineSteps : Obligations.DeliveryCommutesWithEngineSteps := by
  unfold Obligations.DeliveryCommutesWithEngineSteps
  intro s i v he hc hw hmoves
  obtain ⟨-, -, rfl⟩ | ⟨hs, -, -⟩ | ⟨p, hi, hat⟩ := Engine.candidate_cases hc
  · have hoff : s.eng.keyCopyEnabled = false := Bool.eq_false_iff.2 fun h => he.not_want_of_keyCopyEnabled h hw
    exact absurd (State.actIf_false _ hoff) hmoves
  · exact absurd (by simp [Engine.req, hs]) (Engine.want_pos.1 hw).1
  · exact delivery_commutes_of_runStep he hi hat hw hmoves

end Sys2Proof.Machine
end

section
/-! PROOF. A message delivered whole is digested in a number of steps fixed by its length (46_sequencer_and_commands.md R260, R270;
42_block_assembler.md R185): each block takes two steps, and the blocks to come are counted by what remains. -/

namespace Sys2Proof.Machine

/-! ## Blocks to come (R171, R185) -/

/-- How many blocks of a run come after the next one, once no injected block is to come: the run ends with the block in which
the 0x80 byte and the length field have found room. -/
def Engine.blocksAfterNext (e : Engine) : Nat := (e.remaining + e.lenField).toNat / e.blockSize

section Blocks

variable {e : Engine}

/-- The next block is terminal exactly if none is to come after it. -/
theorem Engine.nextBlock_term_iff (hinj : e.injv = false) (hc : e.CountersBounded) :
    e.nextBlock.term = true ↔ e.blocksAfterNext = 0 := by
  obtain ⟨hB, -, hlf⟩ := e.blockSize_bounds
  have hle := hc.consumed
  have hnonneg : 0 ≤ e.remaining + e.lenField := by rw [remaining]; omega
  rw [nextBlock_term, blockStep_term, decide_eq_true_eq, select_final, select_lenOnly, blocksAfterNext,
    Nat.div_eq_zero_iff_lt (by omega)]
  simp only [hinj, true_and]
  omega

/-- A block that is not terminal is one of those to come. -/
theorem Engine.nextBlock_blocksAfterNext {k : Nat} (hinj : e.injv = false) (hc : e.CountersBounded)
    (hk : e.blocksAfterNext = k + 1) : e.nextBlock.blocksAfterNext = k := by
  have hB := e.blockSize_bounds.1
  have hop : e.selectBlockOp ≠ .inject := by simp [select_inject, hinj]
  have hge : e.blockSize ≤ (e.remaining + e.lenField).toNat := by
    by_contra hlt
    rw [blocksAfterNext, Nat.div_eq_of_lt (not_le.1 hlt)] at hk
    omega
  have hless : (e.remaining - e.blockSize + e.lenField).toNat = (e.remaining + e.lenField).toNat - e.blockSize := by omega
  rw [blocksAfterNext, Nat.div_eq_sub_div (by omega) hge] at hk
  rw [blocksAfterNext, nextBlock_remaining hc, if_neg hop, nextBlock_lenField, nextBlock_blockSize, hless]
  omega

theorem Engine.compressBlock_blocksAfterNext (e : Engine) : e.compressBlock.blocksAfterNext = e.blocksAfterNext := by
  simp [blocksAfterNext, remaining]

end Blocks

/-! ## A run whose message is there (R174, R270) -/

/-- A plain digest run all of whose message has been delivered. -/
structure Engine.Delivered (e : Engine) : Prop where
  inv : e.Inv
  stage : e.stage = .plain
  received : e.rcvd = e.srcLen

section Delivered

variable {e : Engine}

theorem Engine.Delivered.isRun (h : e.Delivered) : e.stage.isRun = true := by rw [h.stage]; rfl

theorem Engine.Delivered.atPhase {p : Phase} (h : e.Delivered) (hp : e.phase = p) : e.atPhase p = true :=
  atPhase_iff.2 ⟨h.isRun, hp⟩

theorem Engine.Delivered.external (h : e.Delivered) : e.External := by
  have hsel := h.inv.source
  simp only [SourceSelected, h.stage] at hsel
  exact .inr hsel.1

/-- Between blocks a plain run has no injected block, and its counters are bounded. -/
theorem Engine.Delivered.between (h : e.Delivered) (hp : e.phase = .assemble) : e.injv = false ∧ e.CountersBounded := by
  obtain ⟨hacc, hinj⟩ := (runInv_assemble hp).1 (h.inv.run h.isRun)
  exact ⟨Bool.eq_false_iff.2 fun hi => by simpa [h.stage] using hinj hi, hacc.countersBounded⟩

/-- What remains of the message stands in the window, so that `BA.NEXT` need not wait. -/
theorem Engine.Delivered.nextEnabled (h : e.Delivered) (hp : e.phase = .assemble) : e.nextEnabled = true := by
  have hbal := ((accounted_external h.external).1 ((runInv_assemble hp).1 (h.inv.run h.isRun)).1).2
  rw [Balanced, h.received] at hbal
  have hneed : e.need ≤ e.srcAvail := by rw [need, srcAvail_of_external h.external]; omega
  simp [Engine.nextEnabled, sourceReady, h.atPhase hp, hneed]

theorem Engine.Delivered.runInit (h : e.Delivered) (hp : e.phase = .init) : e.runInit.Delivered :=
  ⟨h.inv.runInit (h.atPhase hp), by simpa using h.stage, by simpa using h.received⟩

theorem Engine.Delivered.nextBlock (h : e.Delivered) (hp : e.phase = .assemble) : e.nextBlock.Delivered :=
  ⟨h.inv.nextBlock (h.nextEnabled hp), by simpa using h.stage, by simpa using h.received⟩

theorem Engine.Delivered.compressBlock (h : e.Delivered) (hp : e.phase = .compress) : e.compressBlock.Delivered :=
  ⟨h.inv.compressBlock (h.atPhase hp), by simpa using h.stage, by simpa using h.received⟩

end Delivered

/-! ## Steps in a row -/

theorem steps_succ_of_step {n : Nat} {s t : State} (h : step s = .next t) : steps (n + 1) s = steps n t := by rw [steps, h]

section Steps

variable {s : State}

/-- The engine's turn in a phase of a digest run. -/
theorem step_of_atPhase {i : Instr} {p : Phase} {e : Engine} (hi : (i, p) ∈ runSteps) (hq : s.sched = [])
    (hat : s.eng.atPhase p = true) (h : exec i s = .next (s.withEng e)) : step s = .next (s.withEng e) :=
  (step_of_candidate hq (Engine.candidate_of_atPhase hi hat)).trans h

/-- A block is two steps: `BA.NEXT` and `CE.BLOCK`. -/
theorem steps_block {n : Nat} (hq : s.sched = []) (h : s.eng.Delivered) (hp : s.eng.phase = .assemble) :
    steps (n + 2) s = steps n (s.withEng s.eng.nextBlock.compressBlock) := by
  have hnext : step s = .next (s.withEng s.eng.nextBlock) :=
    step_of_atPhase (i := .baNext) (by simp [runSteps]) hq (h.atPhase hp) (State.actIf_true _ (h.nextEnabled hp))
  have hat : s.eng.nextBlock.atPhase .compress = true := (h.nextBlock hp).atPhase (by simp)
  have hblock : step (s.withEng s.eng.nextBlock) = .next (s.withEng s.eng.nextBlock.compressBlock) :=
    step_of_atPhase (i := .ceBlock) (s := s.withEng s.eng.nextBlock) (by simp [runSteps]) hq hat (exec_ceBlock_of_enabled hat)
  rw [steps_succ_of_step hnext, steps_succ_of_step hblock]

/-- The end of a plain run is one step. -/
theorem steps_runEnd (hq : s.sched = []) (h : s.eng.Delivered) (hp : s.eng.phase = .format) :
    ∃ t, steps 1 s = .next t ∧ t.eng.stage = .done := by
  have hend : step s = .next (s.withEng s.eng.runEnd) :=
    step_of_atPhase (i := .drEnd) (by simp [runSteps]) hq (h.atPhase hp) (exec_drEnd_of_format h.isRun hp)
  exact ⟨s.withEng s.eng.runEnd, by rw [steps_succ_of_step hend, steps], by simp [Engine.runEnd_of_last (.inr h.stage)]⟩

/-- The run from before a block on: two steps for it, two for each after it, one for the end. -/
theorem steps_blocks (k : Nat) (hq : s.sched = []) (h : s.eng.Delivered) (hp : s.eng.phase = .assemble)
    (hk : s.eng.blocksAfterNext = k) : ∃ t, steps (2 * k + 1 + 2) s = .next t ∧ t.eng.stage = .done := by
  induction k generalizing s with
  | zero =>
    obtain ⟨hinj, hc⟩ := h.between hp
    have hterm : s.eng.nextBlock.term = true := (Engine.nextBlock_term_iff hinj hc).2 hk
    rw [steps_block hq h hp]
    exact steps_runEnd (s := s.withEng s.eng.nextBlock.compressBlock) hq ((h.nextBlock hp).compressBlock (by simp))
      (by simp only [State.withEng_eng, Engine.compressBlock_phase, hterm, if_true])
  | succ k ih =>
    obtain ⟨hinj, hc⟩ := h.between hp
    have hterm : s.eng.nextBlock.term = false := by
      rw [← Bool.not_eq_true, Engine.nextBlock_term_iff hinj hc]
      omega
    rw [steps_block hq h hp]
    refine ih (s := s.withEng s.eng.nextBlock.compressBlock) hq ((h.nextBlock hp).compressBlock (by simp)) ?_ ?_
    · simp only [State.withEng_eng, Engine.compressBlock_phase, hterm, Bool.false_eq_true, if_false]
    · rw [State.withEng_eng, Engine.compressBlock_blocksAfterNext, Engine.nextBlock_blocksAfterNext hinj hc hk]

end Steps

/-- A run starts with all of `SRCLEN` to come. -/
theorem Engine.runInit_blocksAfterNext (e : Engine) :
    e.runInit.blocksAfterNext = (e.srcLen.toNat + e.lenField) / e.blockSize := by
  have htotal : e.runInit.total.toNat = e.srcLen.toNat := by rw [runInit_total, BitVec.toNat_setWidth_of_le (by decide)]
  have hrem : e.runInit.remaining = e.srcLen.toNat := by simp [remaining, htotal, -runInit_total]
  rw [blocksAfterNext, hrem, runInit_lenField, runInit_blockSize]
  norm_cast

/-- Settles O59: one step for `DR.INIT`, then the blocks and the end. -/
theorem deliveredDigestCompletes : Obligations.DeliveredDigestCompletes := by
  unfold Obligations.DeliveredDigestCompletes
  intro s blocks he hq hs hp hrcvd hblocks
  have hlen : s.eng.srcLen = s.eng.mlen := by
    have hsel := he.source
    simp only [Engine.SourceSelected, hs] at hsel
    exact hsel.2
  have h : s.eng.Delivered := ⟨he, hs, hrcvd.trans hlen.symm⟩
  have hinit : step s = .next (s.withEng s.eng.runInit) :=
    step_of_atPhase (i := .drInit) (by simp [runSteps]) hq (h.atPhase hp) (exec_drInit_of_enabled (h.atPhase hp))
  have hcount : blocks = s.eng.runInit.blocksAfterNext + 1 := by
    have hB := s.eng.blockSize_bounds.1
    rw [hblocks, Engine.runInit_blocksAfterNext, hlen, ← Nat.add_div_right _ (by omega)]
    congr 1
    omega
  have hsteps : 2 + 2 * blocks = 2 * s.eng.runInit.blocksAfterNext + 1 + 2 + 1 := by omega
  rw [hsteps, steps_succ_of_step hinit]
  exact steps_blocks _ hq (h.runInit hp) (by simp) rfl

end Sys2Proof.Machine
end

section
/-! PROOF. Errors and reset (60_exceptions.md R290, R300, R302; 70_reset_and_hazards.md R309, R320, R341): what error entry and reset
leave, that the engine steps raise nothing, and that the host's reads depend on the readable registers alone. -/

namespace Sys2Proof.Machine

/-! ## Error entry (R300) -/

/-- A resting engine asks the host for nothing (R42). -/
theorem Engine.want_of_resting {e : Engine} (h : e.stage ∈ Stage.resting) : e.want = 0 := by
  rw [want, if_pos (quiet_of_resting h).1]

theorem Engine.enterError_statusWord (e : Engine) (k : ErrorKind) : (e.enterError k).statusWord = 0x00000704#32 := by
  apply BitVec.eq_of_toNat_eq
  simp [statusWord_toNat, req]

/-- Error entry records the code of the kind (R97, R296). -/
theorem Engine.enterError_errWord_mem (e : Engine) (k : ErrorKind) :
    (k, (e.enterError k).errWord) ∈ ([(.unknownVariant, 1), (.sourceOpenError, 2), (.sourceReadError, 3),
      (.keySourceError, 4), (.badCommand, 5)] : List (ErrorKind × BitVec 32)) := by
  rw [errWord, enterError_err]
  cases k <;> decide

/-- Settles O41: the engine error entry leaves rests in `ERROR`. -/
theorem errorEntryClearsAndRecordsKind : Obligations.ErrorEntryClearsAndRecordsKind := by
  unfold Obligations.ErrorEntryClearsAndRecordsKind
  intro s k
  have hrest : (s.eng.enterError k).stage ∈ Stage.resting := by simp [Stage.resting]
  exact ⟨s.eng.enterError k, rfl, rfl, s.eng.enterError_statusWord k, Engine.want_of_resting hrest,
    (Engine.quiet_of_resting hrest).1, rfl, s.eng.enterError_errWord_mem k⟩

/-! ## Reset (R320) -/

theorem Engine.reset_statusWord : Engine.reset.statusWord = 0#32 := rfl

theorem Engine.reset_errWord : Engine.reset.errWord = 0#32 := rfl

theorem Engine.reset_want : Engine.reset.want = 0 := want_of_resting (by simp [Stage.resting])

/-- Settles O42: the fields of `Engine.reset`, and the signals derived from them. -/
theorem resetZeroesEverything : Obligations.ResetZeroesEverything := by
  unfold Obligations.ResetZeroesEverything
  refine fun s => ⟨Engine.reset, rfl, ?_⟩
  simp [Vars.zero, Engine.reset_statusWord, Engine.reset_errWord, Engine.reset_want]

/-! ## The engine steps (R290, R302) -/

section HandOver

variable (e : Engine)

@[simp] theorem Engine.handOver_err : e.handOver.err = e.err := by unfold handOver; split <;> simp
@[simp] theorem Engine.handOver_msgLen : e.handOver.msgLen = e.msgLen := by unfold handOver; split <;> simp
@[simp] theorem Engine.handOver_keyLen : e.handOver.keyLen = e.keyLen := by unfold handOver; split <;> simp
@[simp] theorem Engine.handOver_mlen : e.handOver.mlen = e.mlen := by unfold handOver; split <;> simp
@[simp] theorem Engine.handOver_klen : e.handOver.klen = e.klen := by unfold handOver; split <;> simp
@[simp] theorem Engine.handOver_rcvd : e.handOver.rcvd = e.rcvd := by unfold handOver; split <;> simp

end HandOver

/-- No digest run is in `ERROR` or ends there (R261). -/
theorem Engine.runEnd_error_iff {e : Engine} (hr : e.stage.isRun = true) : e.runEnd.stage = .error ↔ e.stage = .error := by
  obtain ⟨hs, hend⟩ :=
    (by decide : ∀ p ∈ runEndStages, p.1 ≠ .error ∧ p.2 ≠ .error) _ (runEnd_stage_mem hr)
  exact iff_of_false hend hs

/-- A step of an operation leaves alone what error entry and the host's steps write; only `HM.BUILDPADS` sets `RCVD`, back to 0
(R239). -/
structure RaisesNothing (i : Instr) (s t : State) : Prop where
  err : t.eng.err = s.eng.err
  stage : t.eng.stage = .error ↔ s.eng.stage = .error
  msgLen : t.eng.msgLen = s.eng.msgLen
  keyLen : t.eng.keyLen = s.eng.keyLen
  mlen : t.eng.mlen = s.eng.mlen
  klen : t.eng.klen = s.eng.klen
  rcvd : i ≠ .hmBuildpads → t.eng.rcvd = s.eng.rcvd
  sched : t.sched = s.sched
  out : t.out = s.out

section RaisesNothing

variable {i : Instr} {s t : State}

/-- Waiting raises nothing. -/
theorem raisesNothing_of_actIf {b : Bool} {e : Engine} (he : b = true → RaisesNothing i s (s.withEng e))
    (h : s.actIf b e = .next t) : RaisesNothing i s t := by
  obtain ⟨hb, rfl⟩ | ⟨-, rfl⟩ := State.actIf_next h
  · exact he hb
  · exact ⟨rfl, .rfl, rfl, rfl, rfl, rfl, fun _ => rfl, rfl, rfl⟩

theorem raisesNothing_keyCopy (h : s.eng.keyCopyEnabled = true) :
    RaisesNothing .hmKeycopy s (s.withEng s.eng.keyCopy) := by
  obtain ⟨hs, -⟩ : s.eng.stage = .derivekey ∧ s.eng.phase = .keycopy ∧ s.eng.klen.toNat ≤ s.eng.srcAvail := by
    simpa [Engine.keyCopyEnabled, and_assoc] using h
  constructor <;> simp [hs]

theorem raisesNothing_buildPads (h : s.eng.buildPadsEnabled = true) :
    RaisesNothing .hmBuildpads s (s.withEng s.eng.buildPads) := by
  obtain ⟨hs, -⟩ : s.eng.stage = .buildpads ∧ s.eng.phase = .init := by simpa [Engine.buildPadsEnabled] using h
  constructor <;> simp [hs]

theorem raisesNothing_runInit (s : State) : RaisesNothing .drInit s (s.withEng s.eng.runInit) := by
  constructor <;> simp

theorem raisesNothing_nextBlock (s : State) : RaisesNothing .baNext s (s.withEng s.eng.nextBlock) := by
  constructor <;> simp

theorem raisesNothing_compressBlock (s : State) : RaisesNothing .ceBlock s (s.withEng s.eng.compressBlock) := by
  constructor <;> simp

theorem raisesNothing_runEnd (h : s.eng.runEndEnabled = true) : RaisesNothing .drEnd s (s.withEng s.eng.runEnd) := by
  have herror := Engine.runEnd_error_iff (Engine.atPhase_iff.1 h).1
  constructor
  case stage => exact herror
  all_goals simp [Engine.runEnd]

theorem raisesNothing_of_exec_engineStep
    (hi : i ∈ [Instr.hmKeycopy, .hmBuildpads, .drInit, .baNext, .ceBlock, .drEnd]) (h : exec i s = .next t) :
    RaisesNothing i s t := by
  simp only [List.mem_cons, List.not_mem_nil, or_false] at hi
  obtain rfl | rfl | rfl | rfl | rfl | rfl := hi
  · exact raisesNothing_of_actIf raisesNothing_keyCopy h
  · exact raisesNothing_of_actIf raisesNothing_buildPads h
  · exact raisesNothing_of_actIf (fun _ => raisesNothing_runInit s) h
  · exact raisesNothing_of_actIf (fun _ => raisesNothing_nextBlock s) h
  · exact raisesNothing_of_actIf (fun _ => raisesNothing_compressBlock s) h
  · exact raisesNothing_of_actIf raisesNothing_runEnd h

end RaisesNothing

/-- Settles O43: each of the six steps waits or raises nothing. -/
theorem engineStepsNeverRaise : Obligations.EngineStepsNeverRaise := by
  unfold Obligations.EngineStepsNeverRaise
  intro i s t hi h
  obtain ⟨herr, hstage, hmsg, hkey, hmlen, hklen, hrcvd, hsched, hout⟩ := raisesNothing_of_exec_engineStep hi h
  refine ⟨herr, hstage, hmsg, hkey, hmlen, hklen, ?_, hsched, hout⟩
  split
  · rfl
  · next hne => exact hrcvd hne

/-! ## What the host's reads depend on (R309, R341) -/

/-- Two engines that agree on all a read of the window may depend on. -/
structure Engine.LooksLike (e₁ e₂ : Engine) : Prop where
  stage : e₁.stage = e₂.stage
  err : e₁.err = e₂.err
  rcvd : e₁.rcvd = e₂.rcvd
  srcLen : e₁.srcLen = e₂.srcLen
  klen : e₁.klen = e₂.klen
  mlen : e₁.mlen = e₂.mlen
  msgLen : e₁.msgLen = e₂.msgLen
  keyLen : e₁.keyLen = e₂.keyLen
  window : e₁.ra.length = e₂.ra.length
  rlen : e₁.rlen = e₂.rlen
  dlen : e₁.dlen = e₂.dlen
  olen : e₁.olen = e₂.olen
  obuf : e₁.obuf = e₂.obuf

section LooksLike

variable {e₁ e₂ : Engine}

theorem Engine.LooksLike.req (h : e₁.LooksLike e₂) : e₁.req = e₂.req := by
  simp only [Engine.req, h.stage, h.rcvd, h.klen, h.mlen]

theorem Engine.LooksLike.want (h : e₁.LooksLike e₂) : e₁.want = e₂.want := by
  simp only [Engine.want, h.req, h.window, h.srcLen, h.rcvd]

theorem Engine.LooksLike.statusWord (h : e₁.LooksLike e₂) : e₁.statusWord = e₂.statusWord := by
  simp only [Engine.statusWord, isError, isDone, busy, h.stage, h.req]

theorem Engine.LooksLike.errWord (h : e₁.LooksLike e₂) : e₁.errWord = e₂.errWord := by
  simp only [Engine.errWord, h.err]

theorem Engine.LooksLike.busRead (h : e₁.LooksLike e₂) (off : BitVec 9) : e₁.busRead off = e₂.busRead off := by
  simp only [Engine.busRead, h.statusWord, h.errWord, h.want, h.msgLen, h.keyLen, h.rlen, h.dlen, h.olen, h.obuf]

/-- Engines that look alike answer an operation that reads the window alike. -/
theorem Engine.LooksLike.read {s₁ s₂ : State} (h : s₁.eng.LooksLike s₂.eng) {i : Instr}
    (hread : ∃ off, ∀ s, exec i s = s.read off) :
    ∃ o, exec i s₁ = .next (s₁.returning o) ∧ exec i s₂ = .next (s₂.returning o) := by
  obtain ⟨off, hexec⟩ := hread
  exact ⟨.bus (s₂.eng.busRead off), exec_read (hexec s₁) (h.busRead off), exec_read (hexec s₂) rfl⟩

end LooksLike

/-- The reads of the registers below `OBUF` (R263, R264). -/
theorem exec_registerRead {i : Instr} (hi : i ∈ [Instr.rdStatus, .rdErr, .rdWant, .rdMsglenLo, .rdMsglenHi, .rdKeylenLo,
    .rdKeylenHi, .rdRlen, .rdDlen, .rdOlen]) : ∃ off, ∀ s, exec i s = s.read off := by
  cases i with
  | rdStatus | rdErr | rdWant | rdMsglenLo | rdMsglenHi | rdKeylenLo | rdKeylenHi | rdRlen | rdDlen | rdOlen =>
    exact ⟨_, fun _ => rfl⟩
  | _ => simp at hi

/-- Settles O53: a listed read is a read of the window, and a null read answers 0. -/
theorem hostReadsHideInternalState : Obligations.HostReadsHideInternalState := by
  unfold Obligations.HostReadsHideInternalState
  intro i s₁ s₂ hi hstage herr hrcvd hsrcLen hklen hmlen hmsg hkey hra hrlen hdlen holen hobuf
  have hlooks : s₁.eng.LooksLike s₂.eng :=
    ⟨hstage, herr, hrcvd, hsrcLen, hklen, hmlen, hmsg, hkey, hra, hrlen, hdlen, holen, hobuf⟩
  obtain hlisted | ⟨k, rfl⟩ | ⟨off, rfl⟩ := hi
  · exact hlooks.read (exec_registerRead hlisted)
  · exact hlooks.read ⟨_, fun _ => rfl⟩
  · exact ⟨.bus 0, rfl, rfl⟩

end Sys2Proof.Machine
end
